-- ==== Sys2Proof/Word.lean ====
section
/-! DEFINITION. The words the part's fields are made of: bytes of its two ports, the sensor id and
frame count of an uplink frame (R2, R18), the planner time it sends (R181), and the sets that the
planner link carries as bit fields (R181). Quantities that the manual only counts, compares or
divides are `Nat` or `Int` in the model. -/

namespace Sys2Proof

/-- One byte, as the intake port and the planner link deliver it. -/
abbrev Byte := BitVec 8

/-- The 32-bit sensor id of R2; its high 8 bits are the prefix (R18). -/
abbrev SensorId := BitVec 32

/-- The 16-bit frame count of R2; distances between counts are taken modulo 65,536 (R36). -/
abbrev FrameCount := BitVec 16

/-- A planner time as it is sent: local seconds plus the planner offset, modulo 2^32 (R181). -/
abbrev PlannerTime := BitVec 32

/-- A set of rows 0..16: bit r stands for row r (R181). -/
abbrev RowSet := BitVec 17

/-- A set of districts 0..15: bit d stands for district d (R181). -/
abbrev DistrictSet := BitVec 16

/-- A set of watch classes 0..15: bit c stands for class c (R181). -/
abbrev ClassSet := BitVec 16

end Sys2Proof
end

