-- ==== Sys2Proof/Machine/Bytes.lean ====
section
/-! DEFINITION. Bytes and numbers: the byte order of both ports (most significant byte first,
12_frame_and_record_formats.md) and the CRC of R146. -/

namespace Sys2Proof.Machine

/-- The byte at an offset of a structure, as a number. A byte past the end reads as 0; every reader
has checked the length first (R3, R162). -/
def byteAt (p : List Byte) (i : Nat) : Nat := (p.getD i 0).toNat

/-- A 2-byte field, most significant byte first. -/
def word16At (p : List Byte) (i : Nat) : Nat := byteAt p i * 256 + byteAt p (i + 1)

/-- A 3-byte field, most significant byte first. -/
def word24At (p : List Byte) (i : Nat) : Nat := byteAt p i * 65536 + word16At p (i + 1)

/-- A 4-byte field, most significant byte first. -/
def word32At (p : List Byte) (i : Nat) : Nat := word16At p i * 65536 + word16At p (i + 2)

/-- A 2-byte signed field, two's complement. -/
def signed16At (p : List Byte) (i : Nat) : Int :=
  let v := word16At p i
  if v < 32768 then (v : Int) else (v : Int) - 65536

/-- One byte of a number. -/
def byte (n : Nat) : Byte := BitVec.ofNat 8 n

/-- A number as 2 bytes, most significant first. -/
def bytes16 (n : Nat) : List Byte := [byte (n / 256), byte n]

/-- A number as 4 bytes, most significant first. -/
def bytes32 (n : Nat) : List Byte := [byte (n / 16777216), byte (n / 65536), byte (n / 256), byte n]

/-- A signed number as a 2-byte two's complement field. -/
def signedBytes16 (v : Int) : List Byte := bytes16 (BitVec.ofInt 16 v).toNat

/-- `n` steps of the CRC register of R146: polynomial 0x1021, most significant bit first. -/
def crcShift : Nat → BitVec 16 → BitVec 16
  | 0, c => c
  | n + 1, c => crcShift n (if c.msb then (c <<< 1) ^^^ 0x1021#16 else c <<< 1)

/-- The CRC register after one more byte. -/
def crcByte (c : BitVec 16) (b : Byte) : BitVec 16 :=
  crcShift 8 (c ^^^ (b.zeroExtend 16 <<< 8))

/-- The 16-bit CRC of R146: initial value 0xFFFF, no final inversion. -/
def crc16 (p : List Byte) : BitVec 16 := p.foldl crcByte 0xFFFF#16

end Sys2Proof.Machine
end

