-- ==== Sys2Proof/Machine/Link.lean ====
section
/-! DEFINITION. The planner link's envelope (R146, 12.2) and the receiver's envelope checks (R147). -/

namespace Sys2Proof.Machine

/-- The frame kinds of the planner link. -/
inductive LinkKind where
  | management | time | pause | go | start | response | notice | summary
deriving DecidableEq, Repr

/-- The kind byte of each kind (12.2). -/
def LinkKind.code : LinkKind → Nat
  | .management => 0x10
  | .time => 0x11
  | .pause => 0x12
  | .go => 0x13
  | .start => 0x20
  | .response => 0x21
  | .notice => 0x22
  | .summary => 0x23

/-- The inbound kind a kind byte names; the outbound kinds and unknown bytes are none (R147 check 4). -/
def LinkKind.inbound (n : Nat) : Option LinkKind :=
  if n = 0x10 then some .management
  else if n = 0x11 then some .time
  else if n = 0x12 then some .pause
  else if n = 0x13 then some .go
  else none

/-- The detail of a link fault (R147). -/
inductive LinkDetail where
  | short | check | length | kind | unanswered
deriving DecidableEq, Repr

/-- The detail values of R147. -/
def LinkDetail.num : LinkDetail → Nat
  | .short => 1
  | .check => 2
  | .length => 3
  | .kind => 4
  | .unanswered => 5

/-- The kind, length and body fields of a frame, over which the check is computed. -/
def linkHead (kind : LinkKind) (body : List Byte) : List Byte :=
  byte kind.code :: bytes16 body.length ++ body

/-- A whole frame in its envelope (R146). -/
def linkFrame (kind : LinkKind) (body : List Byte) : List Byte :=
  linkHead kind body ++ bytes16 (crc16 (linkHead kind body)).toNat

/-- The body bytes of a delivered frame: all but the kind, the length and the check. -/
def linkBody (bytes : List Byte) : List Byte := (bytes.drop 3).take (bytes.length - 5)

/-- Is the body of the length R147's check 5 asks of an inbound kind? A MANAGEMENT body is not
checked here. -/
def bodyFits : LinkKind → List Byte → Bool
  | .time, body => body.length == 4
  | .pause, body => body.isEmpty
  | .go, body => body.isEmpty
  | _, _ => true

/-- What the receiver finds in a delivered frame (R147): the first check that fails, or the kind and
body of a frame that passes all five. -/
def linkCheck (bytes : List Byte) : LinkDetail ⊕ (LinkKind × List Byte) :=
  if bytes.length < 5 then .inl .short
  else if word16At bytes (bytes.length - 2) ≠ (crc16 (bytes.take (bytes.length - 2))).toNat then
    .inl .check
  else if word16At bytes 1 ≠ bytes.length - 5 then .inl .length
  else match LinkKind.inbound (byteAt bytes 0) with
    | none => .inl .kind
    | some k => if bodyFits k (linkBody bytes) then .inr (k, linkBody bytes) else .inl .length

/-- The detail of the first envelope check that a frame fails, if any. -/
def linkFault (bytes : List Byte) : Option LinkDetail :=
  match linkCheck bytes with
  | .inl d => some d
  | .inr _ => none

end Sys2Proof.Machine
end

