-- ==== Sys2Proof/Syntax.lean ====
section
/-! DEFINITION. The commands of the part: one constructor for each row of spec/opcode_table.json.
The part is a block: it has no instruction words. Its "instructions" are the steps that the table
lists, each whole and indivisible (95_what_each_step_holds.md). -/

namespace Sys2Proof

/-- One frame that a receive chain offers to the intake port (R2): the three descriptor bytes of
12.1 and the bytes that follow. The port takes exactly `length` of them as the payload. -/
structure ChainFrame where
  /-- Descriptor byte 0: reception quality, 0..255. -/
  quality : Byte
  /-- Descriptor byte 1: bit 0 is the radio check, set for PASS (R180). -/
  radio : Byte
  /-- Descriptor byte 2: payload length. -/
  length : Byte
  /-- The bytes offered after the descriptor. -/
  bytes : List Byte
deriving DecidableEq, Repr

/-- The commands. Requests are carried out at the head of the management queue, so their rows carry
no operand: the request with its arguments stands in the queue (R161). -/
inductive Instr where
  /-- INTAKE_FRAME_TAKE (R1): what each of the four receive chains offers at this moment. -/
  | intakeFrameTake (chain0 chain1 chain2 chain3 : Option ChainFrame)
  /-- MERGE_ENTRY_EXPIRY (R10) of the merge entry with this key. -/
  | mergeEntryExpiry (sensor : SensorId) (count : FrameCount)
  /-- ADMISSION_PLACE_GRANT (R15). -/
  | admissionPlaceGrant
  /-- ESTIMATE_START (R71). -/
  | estimateStart
  /-- ESTIMATE_COMPLETION (R72) of the estimate in flight for this bin. -/
  | estimateCompletion (bin : Nat)
  /-- SILENCE_SWEEP (R44). -/
  | silenceSweep
  /-- MANAGEMENT_FRAME (R160): the body of an inbound MANAGEMENT frame that passed R147. -/
  | managementFrame (body : List Byte)
  /-- TIME_BEACON (R172): the planner seconds a TIME frame carries. -/
  | timeBeacon (seconds : BitVec 32)
  /-- PAUSE (R149). -/
  | pause
  /-- GO (R149). -/
  | go
  /-- LOAD_PREFIX (R26), at the head of the management queue, as are the requests below. -/
  | loadPrefix
  /-- CLEAR_PREFIX (R27). -/
  | clearPrefix
  /-- READ_PREFIX (R30). -/
  | readPrefix
  /-- LOAD_DEVICE (R28). -/
  | loadDevice
  /-- CLEAR_DEVICE (R29). -/
  | clearDevice
  /-- READ_DEVICE_BY_ENTRY (R31). -/
  | readDeviceByEntry
  /-- READ_DEVICE_BY_SENSOR (R31). -/
  | readDeviceBySensor
  /-- LOAD_BIN (R46). -/
  | loadBin
  /-- RETIRE_BIN (R50). -/
  | retireBin
  /-- CLEAR_DISTRICT (R51). -/
  | clearDistrict
  /-- READ_BIN (R53). -/
  | readBin
  /-- LOAD_PROFILE (R63). -/
  | loadProfile
  /-- READ_PROFILE (R67). -/
  | readProfile
  /-- READ_OUTCOMES (R110). -/
  | readOutcomes
  /-- REQUEST_DUE_LIST (R123). -/
  | requestDueList
  /-- LOAD_WATCH_MASK (R140). -/
  | loadWatchMask
  /-- READ_COUNTERS (R142), without the reset option. -/
  | readCounters
  /-- READ_COUNTERS_RESET (R143): READ COUNTERS with the reset option. -/
  | readCountersReset
  /-- RESET_COUNTERS (R143). -/
  | resetCounters
  /-- LOAD_AUTHORITY (R165). -/
  | loadAuthority
  /-- READ_AUTHORITY (R166). -/
  | readAuthority
  /-- STORE_CONFIG (R176). -/
  | storeConfig
  /-- READ_CONFIG (R177). -/
  | readConfig
  /-- RESTART (R179). -/
  | restart
  /-- UNKNOWN_OP (R162): the head's operation is not a known one. -/
  | unknownOp
  /-- CHANGE_APPLICATION (R104). -/
  | changeApplication
  /-- CHANGE_TIMEOUT (R105). -/
  | changeTimeout
  /-- TRANSMISSION_END (R150). -/
  | transmissionEnd
  /-- START_GRANT (R153). -/
  | startGrant
  /-- RESPONSE_GRANT (R151). -/
  | responseGrant
  /-- NOTICE_GRANT (R152). -/
  | noticeGrant
  /-- SUMMARY_GRANT (R156): a forced or a scheduled summary. -/
  | summaryGrant
  /-- CATCH_UP_SUMMARY (R155). -/
  | catchUpSummary
  /-- NOTICE_HOLD_EXPIRY (R152). -/
  | noticeHoldExpiry
  /-- SUMMARY_TIMER_EXPIRY (R154). -/
  | summaryTimerExpiry
  /-- BEACON_LOSS_EXPIRY (R173). -/
  | beaconLossExpiry
  /-- STORE_WRITE_BEGIN (R176). -/
  | storeWriteBegin
  /-- STORE_WRITE_END (R176). -/
  | storeWriteEnd
  /-- POWER_ON (R178). -/
  | powerOn
  /-- POWER_LOSS (R176). -/
  | powerLoss
  /-- RESET_LINE_ASSERT (R178). -/
  | resetLineAssert
  /-- RESET_LINE_RELEASE (R178). -/
  | resetLineRelease
  /-- START_COMPLETE (R178). -/
  | startComplete
  /-- INBOUND_FRAME_DISCARDED (R147): the bytes of an inbound frame as the link delivered them. -/
  | inboundFrameDiscarded (bytes : List Byte)
deriving DecidableEq, Repr

end Sys2Proof
end

