-- ==== Sys2Proof/WellFormed.lean ====
section
/-! DEFINITION. Which commands the outside can send as the spec describes them. `exec` is total and
does not ask for this; statements that need it name it. -/

namespace Sys2Proof

/-- A frame arrives whole: the bytes offered are those its descriptor states (R2). -/
def ChainFrame.wellFormed (f : ChainFrame) : Bool := f.bytes.length == f.length.toNat

/-- A chain that offers nothing is well-formed. -/
def offerWellFormed : Option ChainFrame → Bool
  | none => true
  | some f => f.wellFormed

/-- The checks on a command's operands: whole chain frames (R2), a bin number 0..8,191, a body of at
most 1,024 bytes (R146), and a discarded frame that fails an envelope check (R147). -/
def Instr.wellFormed : Instr → Bool
  | .intakeFrameTake a b c d =>
      offerWellFormed a && offerWellFormed b && offerWellFormed c && offerWellFormed d
  | .estimateCompletion bin => decide (bin < 8192)
  | .managementFrame body => decide (body.length ≤ 1024)
  | .inboundFrameDiscarded bytes => (Machine.linkFault bytes).isSome
  | _ => true

end Sys2Proof
end

