-- ==== Sys2Proof/Decode.lean ====
section
/-! DEFINITION. The table's rows give no bits, so no word of the table spells a command. What does
spell commands is a frame on the inbound side of the planner link: `frameCommand` is the receiver of
R147 and R148, total on any bytes, and `commandFrame` writes the frame of a command. -/

namespace Sys2Proof

/-- The command that the bytes of an inbound planner-link frame spell: the receiver makes the checks
of R147 and hands the frame on by its kind (R148). A frame that fails a check is discarded. -/
def frameCommand (bytes : List Byte) : Instr :=
  match Machine.linkCheck bytes with
  | .inl _ => .inboundFrameDiscarded bytes
  | .inr (.management, body) => .managementFrame body
  | .inr (.time, body) => .timeBeacon (BitVec.ofNat 32 (Machine.word32At body 0))
  | .inr (.pause, _) => .pause
  | .inr (.go, _) => .go
  | .inr (.start, _) => .inboundFrameDiscarded bytes
  | .inr (.response, _) => .inboundFrameDiscarded bytes
  | .inr (.notice, _) => .inboundFrameDiscarded bytes
  | .inr (.summary, _) => .inboundFrameDiscarded bytes

/-- The bytes that carry a command on the planner link, for the commands that arrive there. -/
def commandFrame : Instr → Option (List Byte)
  | .managementFrame body => some (Machine.linkFrame .management body)
  | .timeBeacon v => some (Machine.linkFrame .time (Machine.bytes32 v.toNat))
  | .pause => some (Machine.linkFrame .pause [])
  | .go => some (Machine.linkFrame .go [])
  | .inboundFrameDiscarded bytes => some bytes
  | _ => none

/-- No row of spec/opcode_table.json gives bits, so no word spells a command. -/
def decodeTableWord (_nbits _w : Nat) : Option Instr := none

end Sys2Proof
end

