-- ==== Sys2Proof/Machine/Table.lean ====
section
/-! DEFINITION. The part's numbered tables as plain data: a list of (number, contents) pairs in one
canonical form, numbers strictly rising. An unlisted number reads as absent (`get`) or as the table's
own rest value (`read`), and a write of that value removes the entry, so equal tables are equal
data. -/

namespace Sys2Proof.Machine

/-- A numbered table. -/
structure Table (α : Type) where
  entries : List (Nat × α)
deriving DecidableEq, Repr

variable {α : Type}

/-- The table with nothing listed. -/
def Table.empty : Table α := ⟨[]⟩

/-- What a list of entries holds under a number. -/
def findEntry : List (Nat × α) → Nat → Option α
  | [], _ => none
  | (j, v) :: rest, k => if j = k then some v else findEntry rest k

/-- Put an entry at its place, replacing one of the same number. -/
def putEntry : List (Nat × α) → Nat → α → List (Nat × α)
  | [], k, v => [(k, v)]
  | (j, w) :: rest, k, v =>
      if k < j then (k, v) :: (j, w) :: rest
      else if k = j then (k, v) :: rest
      else (j, w) :: putEntry rest k v

/-- Take the entry of a number out. -/
def dropEntry : List (Nat × α) → Nat → List (Nat × α)
  | [], _ => []
  | (j, w) :: rest, k => if j = k then rest else (j, w) :: dropEntry rest k

/-- Are the numbers strictly rising? -/
def rising : List (Nat × α) → Bool
  | [] => true
  | (j, _) :: rest => (rest.all fun e => decide (j < e.1)) && rising rest

/-- The contents of an entry, if it is listed. -/
def Table.get (t : Table α) (k : Nat) : Option α := findEntry t.entries k

/-- Set (`some`) or clear (`none`) an entry. -/
def Table.set (t : Table α) (k : Nat) : Option α → Table α
  | some v => ⟨putEntry t.entries k v⟩
  | none => ⟨dropEntry t.entries k⟩

/-- The contents of an entry, where an unlisted entry holds `d`. -/
def Table.read (d : α) (t : Table α) (k : Nat) : α := (t.get k).getD d

/-- Write an entry of a table whose unlisted entries hold `d`. -/
def Table.write [DecidableEq α] (d : α) (t : Table α) (k : Nat) (v : α) : Table α :=
  t.set k (if v = d then none else some v)

/-- The canonical form of a table read with `get`: numbers strictly rising. -/
def Table.wf (t : Table α) : Bool := rising t.entries

/-- The canonical form of a table read with `read d`: besides, no entry holds the rest value `d` of
its number. -/
def Table.canonical [DecidableEq α] (d : Nat → α) (t : Table α) : Bool :=
  t.wf && t.entries.all fun e => decide (e.2 ≠ d e.1)

end Sys2Proof.Machine
end

