-- ==== Sys2Proof/Machine/Types.lean ====
section
/-! DEFINITION. The records and names the part's blocks are made of, each with the rule that gives
it, and the code numbers the manual assigns to names. -/

namespace Sys2Proof.Machine

/-! ### Frames on the uplink path -/

/-- The frame kinds of R2. -/
inductive FrameKind where
  | reading | status | install
deriving DecidableEq, Repr

/-- The kind a kind byte names (12.1); any other byte fails the form check. -/
def FrameKind.ofCode (n : Nat) : Option FrameKind :=
  if n = 1 then some .reading else if n = 2 then some .status else if n = 3 then some .install else none

/-- A merge entry (R5): its key, its best copy, its times in local milliseconds and its held flag. -/
structure MergeEntry where
  sensor : SensorId
  count : FrameCount
  quality : Nat
  payload : List Byte
  openedAt : Nat
  expiry : Nat
  held : Bool
deriving DecidableEq, Repr

/-- A translated frame as the admission queue holds it (R12). -/
structure Frame where
  payload : List Byte
  bin : Nat
  arrival : Nat
deriving DecidableEq, Repr

/-- A frame of the deferred queue (R102): it also keeps the district translation gave it. -/
structure DeferredFrame where
  frame : Frame
  district : Nat
deriving DecidableEq, Repr

/-- A busy estimate slot (R70). -/
structure Estimate where
  frame : Frame
  district : Nat
  gap : Option Nat
deriving DecidableEq, Repr

/-! ### Translation tables -/

/-- A valid prefix-table entry (R19). -/
structure Segment where
  base : Nat
  length : Nat
deriving DecidableEq, Repr

/-- A valid device-table entry (R20). -/
structure Mapping where
  bin : Nat
  generation : Nat
deriving DecidableEq, Repr

/-! ### Bin records -/

/-- The bin states of chapter 3. -/
inductive BinState where
  | empty | learning | active | silent
deriving DecidableEq, Repr

/-- The states of a bin that is assigned. -/
inductive LiveState where
  | learning | active | silent
deriving DecidableEq, Repr

/-- The bin state a live state is. -/
def LiveState.binState : LiveState → BinState
  | .learning => .learning
  | .active => .active
  | .silent => .silent

/-- The pair from which a bin's rate is measured (R33). -/
structure Anchor where
  time : Nat
  f16 : Nat
deriving DecidableEq, Repr

/-- The fields a bin record holds while the bin is not EMPTY (R33). `rate` is present exactly when
the rate is valid; `dueCrossed` holds the crossed-at time exactly when the flag is set. -/
structure Assigned where
  state : LiveState
  district : Nat
  profile : Nat
  generation : Nat
  offset : Int
  lastCount : Option FrameCount
  lastHeard : Nat
  samples : List Nat
  f16 : Option Nat
  surface : Option Int
  anchor : Option Anchor
  rate : Option Nat
  dueCrossed : Option Nat
  fullCrossed : Bool
  heaped : Bool
  fastFill : Bool
  lid : Bool
  battery : Option Nat
  batteryLow : Bool
deriving DecidableEq, Repr

/-- A bin record (R33): EMPTY when nothing is assigned. -/
structure BinRecord where
  mapped : Option Nat
  unqueued : Bool
  assigned : Option Assigned
deriving DecidableEq, Repr

/-- The record of a bin as power-on leaves it (R55). -/
def BinRecord.vacant : BinRecord := { mapped := none, unqueued := false, assigned := none }

/-- The state a record shows. -/
def BinRecord.state (r : BinRecord) : BinState :=
  match r.assigned with
  | none => .empty
  | some a => a.state.binState

/-! ### Geometry profiles -/

/-- The profile kinds. -/
inductive ProfileKind where
  | litter | glass
deriving DecidableEq, Repr, Inhabited

/-- The fields of a loaded profile (R56). -/
structure Profile where
  kind : ProfileKind
  depth : Nat
  mouth : Nat
  points : List (Nat × Nat)
  weight : Nat
  track : Nat
  defaultTemp : Int
  dueAt : Nat
  fullAt : Nat
  drop : Nat
  fastLimit : Nat
  minSpan : Nat
  silenceLimit : Nat
  batteryLimit : Nat
deriving DecidableEq, Repr, Inhabited

/-! ### Outcomes -/

/-- The outcome codes of R97. -/
inductive OutcomeCode where
  | applied | flagged | format | prefixRange | prefixInvalid | deviceRange | deviceInvalid
  | generation | binEmpty | duplicate | stale | deferFull | intakeFull | nullified
deriving DecidableEq, Repr

/-- The code values of R97. -/
def OutcomeCode.code : OutcomeCode → Nat
  | .applied => 0x00
  | .flagged => 0x01
  | .format => 0x10
  | .prefixRange => 0x11
  | .prefixInvalid => 0x12
  | .deviceRange => 0x13
  | .deviceInvalid => 0x14
  | .generation => 0x15
  | .binEmpty => 0x16
  | .duplicate => 0x17
  | .stale => 0x18
  | .deferFull => 0x19
  | .intakeFull => 0x1A
  | .nullified => 0x20

/-- The place of a code's count among the 18 counts of a row's tally (R99): the order of R97. -/
def OutcomeCode.place : OutcomeCode → Nat
  | .applied => 0
  | .flagged => 1
  | .format => 2
  | .prefixRange => 3
  | .prefixInvalid => 4
  | .deviceRange => 5
  | .deviceInvalid => 6
  | .generation => 7
  | .binEmpty => 8
  | .duplicate => 9
  | .stale => 10
  | .deferFull => 11
  | .intakeFull => 12
  | .nullified => 13

/-- The FORMAT details of R98. -/
inductive FormDetail where
  | radioCheck | length | badKind | echoCount
deriving DecidableEq, Repr

/-- The FORMAT detail values of R98. -/
def FormDetail.num : FormDetail → Nat
  | .radioCheck => 1
  | .length => 2
  | .badKind => 3
  | .echoCount => 4

/-- The FLAGGED details of R98. -/
inductive FlagDetail where
  | blind | tempClamped | heaped | calLimit
deriving DecidableEq, Repr

/-- The FLAGGED detail values of R98. -/
def FlagDetail.num : FlagDetail → Nat
  | .blind => 1
  | .tempClamped => 2
  | .heaped => 4
  | .calLimit => 8

/-- The place of a detail's count among the 18 counts of a row's tally (R99). -/
def FlagDetail.place : FlagDetail → Nat
  | .blind => 14
  | .tempClamped => 15
  | .heaped => 16
  | .calLimit => 17

/-! ### Gates -/

/-- A gate's state (R100). -/
inductive GateState where
  | opened | changing
deriving DecidableEq, Repr

/-- The pending change (R100): the districts it gates and the local milliseconds at which their gates
were set. The request itself is the head of the management queue (R160). -/
structure PendingChange where
  districts : List Nat
  since : Nat
deriving DecidableEq, Repr

/-! ### The collection-due queue -/

/-- A due entry (R113). -/
structure DueEntry where
  bin : Nat
  district : Nat
  due : Nat
  isOver : Bool
  silent : Bool
  coarse : Bool
deriving DecidableEq, Repr

/-! ### The watch unit -/

/-- The sixteen watch classes of R130. -/
inductive WatchClass where
  | due | full | heaped | collected | fastFill | silent | lid | blind
  | calLimit | gap | repeated | unmapped | malformed | deferred | lowBattery | overrun
deriving DecidableEq, Repr

/-- The class numbers of R130. -/
def WatchClass.num : WatchClass → Nat
  | .due => 0
  | .full => 1
  | .heaped => 2
  | .collected => 3
  | .fastFill => 4
  | .silent => 5
  | .lid => 6
  | .blind => 7
  | .calLimit => 8
  | .gap => 9
  | .repeated => 10
  | .unmapped => 11
  | .malformed => 12
  | .deferred => 13
  | .lowBattery => 14
  | .overrun => 15

/-- The modes of a watch mask (R132). -/
inductive MaskMode where
  | off | notify | count
deriving DecidableEq, Repr

/-- The mode a mode byte names (12.3, LOAD WATCH MASK). -/
def MaskMode.ofCode (n : Nat) : Option MaskMode :=
  if n = 0 then some .off else if n = 1 then some .notify else if n = 2 then some .count else none

/-- An event as it reaches the watch unit (R130). -/
structure Event where
  cls : WatchClass
  row : Nat
  bin : Option Nat
  origin : Option (SensorId × FrameCount)
  value : Int
deriving DecidableEq, Repr

/-- The time qualities sent out (R171). -/
inductive TimeQuality where
  | unset | synced | free
deriving DecidableEq, Repr

/-- The time quality values of R181. -/
def TimeQuality.code : TimeQuality → Nat
  | .unset => 0
  | .synced => 1
  | .free => 2

/-- A notice record (R135). -/
structure NoticeRecord where
  cls : WatchClass
  row : Nat
  bin : Option Nat
  origin : Option (SensorId × FrameCount)
  time : PlannerTime
  quality : TimeQuality
  value : Int
  companion : Bool
  raisedAt : Nat
deriving DecidableEq, Repr

/-! ### Stored configuration -/

/-- The eight settings of R174 as numbers, in its order: those in force, and those that a stored
block gives before a start clamps them. The due horizon is held in days. -/
structure Settings where
  mergeWindow : Nat
  sweepInterval : Nat
  dueHorizon : Nat
  changeWait : Nat
  noticeHold : Nat
  summaryInterval : Nat
  beaconLoss : Nat
  credentials : Nat
deriving DecidableEq, Repr, Inhabited

/-- The eight settings as a settings block stores them (R174): each a 16-bit unsigned number. -/
structure StoredSettings where
  mergeWindow : BitVec 16
  sweepInterval : BitVec 16
  dueHorizon : BitVec 16
  changeWait : BitVec 16
  noticeHold : BitVec 16
  summaryInterval : BitVec 16
  beaconLoss : BitVec 16
  credentials : BitVec 16
deriving DecidableEq, Repr, Inhabited

/-- The numbers that a settings block stores. -/
def StoredSettings.values (s : StoredSettings) : Settings where
  mergeWindow := s.mergeWindow.toNat
  sweepInterval := s.sweepInterval.toNat
  dueHorizon := s.dueHorizon.toNat
  changeWait := s.changeWait.toNat
  noticeHold := s.noticeHold.toNat
  summaryInterval := s.summaryInterval.toNat
  beaconLoss := s.beaconLoss.toNat
  credentials := s.credentials.toNat

/-- The names of the settings, for the clamp lists of R176 and R177. -/
inductive Setting where
  | mergeWindow | sweepInterval | dueHorizon | changeWait | noticeHold | summaryInterval
  | beaconLoss | credentials
deriving DecidableEq, Repr

/-- A protection copy of the start record (R174): a level as stored (12.3: 0 NONE, 1 DISTRICTS,
2 ALL) and a district set. -/
structure ProtectionCopy where
  level : Nat
  districts : DistrictSet
deriving DecidableEq, Repr, Inhabited

/-- A whole record for the store to write (R176): settings and protection. -/
structure StartRecord where
  settings : StoredSettings
  protection : ProtectionCopy
deriving DecidableEq, Repr

/-- The part of the record a store write has reached (R176): the one being written now. -/
inductive WritePoint where
  | block | copy1 | copy2 | copy3
deriving DecidableEq, Repr

/-- A store write in progress. -/
structure StoreWrite where
  record : StartRecord
  point : WritePoint
deriving DecidableEq, Repr

/-- The protection in force (R167). -/
inductive Protection where
  | none
  | districts (set : DistrictSet)
  | all
deriving DecidableEq, Repr

/-- The configuration statuses of R175. -/
inductive ConfigStatus where
  | ok | clamped | defaulted | protectMismatch
deriving DecidableEq, Repr

/-- The configuration status values of the START body (12.4). -/
def ConfigStatus.code : ConfigStatus → Nat
  | .ok => 0
  | .clamped => 1
  | .defaulted => 2
  | .protectMismatch => 3

/-- The cause of a start (R178); a RESTART keeps its request tag. -/
inductive StartCause where
  | powerOn
  | resetLine
  | command (tag : Nat)
deriving DecidableEq, Repr

/-- The cause values of the START body (12.4). -/
def StartCause.code : StartCause → Nat
  | .powerOn => 0
  | .resetLine => 1
  | .command _ => 2

/-- Whether the part is without power, in a start (R178), or running. -/
inductive Phase where
  | off
  | starting (cause : StartCause)
  | running
deriving DecidableEq, Repr

/-- The time states of R171. -/
inductive TimeState where
  | unset | synced | freeRun
deriving DecidableEq, Repr

/-- The time quality each time state sends (R171). -/
def TimeState.quality : TimeState → TimeQuality
  | .unset => .unset
  | .synced => .synced
  | .freeRun => .free

/-! ### Management requests and what the part sends -/

/-- A request in the management queue: its header and its argument block (R159, R182). -/
structure Request where
  tag : Nat
  credential : Nat
  op : Nat
  argLen : Nat
  args : List Byte
deriving DecidableEq, Repr

/-- The result codes of R162. -/
inductive Result where
  | ok | busy | unknownOp | authRange | authDenied | rowProtected | badArgument | notLoaded
  | conflict | timeout
deriving DecidableEq, Repr

/-- The result code values of R162. -/
def Result.code : Result → Nat
  | .ok => 0
  | .busy => 1
  | .unknownOp => 2
  | .authRange => 3
  | .authDenied => 4
  | .rowProtected => 5
  | .badArgument => 6
  | .notLoaded => 7
  | .conflict => 8
  | .timeout => 9

/-- The rights of a credential (R163). -/
structure Authority where
  view : RowSet
  change : RowSet
deriving DecidableEq, Repr

/-- The sets of a credential that nothing has been loaded for (R163). -/
def Authority.nothing : Authority := { view := 0, change := 0 }

/-- One entry of a due-list response (R127). -/
structure DueItem where
  bin : Nat
  district : Nat
  due : PlannerTime
  isOver : Bool
  silent : Bool
  coarse : Bool
deriving DecidableEq, Repr

/-- What one frame of a due-list response carries after the header (R127). -/
structure DueFrame where
  number : Nat
  frames : Nat
  quality : TimeQuality
  selected : Nat
  matching : Nat
  unqueued : Nat
  items : List DueItem
deriving DecidableEq, Repr

/-- What READ BIN reports (R53); an absent field is `none`. -/
structure BinReport where
  state : BinState
  district : Option Nat
  profile : Option Nat
  generation : Option Nat
  mapped : Option Nat
  lastCount : Option FrameCount
  lastHeard : Option PlannerTime
  samples : List Nat
  offset : Option Int
  f16 : Option Nat
  fill : Option Nat
  surface : Option Int
  anchor : Option (PlannerTime × Nat)
  rate : Option Nat
  dueCrossed : Option PlannerTime
  fullCrossed : Bool
  heaped : Bool
  fastFill : Bool
  lid : Bool
  batteryLow : Bool
  unqueued : Bool
  battery : Option Nat
  quality : TimeQuality
  dueEntry : Option (PlannerTime × Bool × Bool)
  calibration : Option (Bool × Int)
deriving DecidableEq, Repr

/-- What READ DEVICE BY SENSOR reports (R31). -/
structure SensorReport where
  result : Option OutcomeCode
  pfx : Nat
  index : Nat
  entry : Option Nat
  mapping : Option Mapping
  bin : Option (BinState × Option Nat × Option Nat)
deriving DecidableEq, Repr

/-- What READ CONFIG reports (R177). -/
structure ConfigReport where
  inForce : Settings
  protection : Protection
  stored : StoredSettings
  checkMatches : Bool
  copies : List ProtectionCopy
  writing : Bool
  recordPending : Bool
  cause : StartCause
  status : ConfigStatus
  clamps : List Setting
  timeState : TimeState
  localSeconds : Nat
  offset : Int
  lastBeacon : Option Nat
  beaconLoss : Nat
deriving DecidableEq, Repr

/-- What a RESPONSE frame carries beyond its header: the contents each request's own rule gives. -/
inductive Contents where
  /-- The header alone: every result but OK, and an OK with nothing to add (R168). -/
  | nothing
  /-- LOAD PREFIX and CLEAR PREFIX: the entry's previous contents (R26, R27). -/
  | prefixWas (previous : Option Segment)
  /-- READ PREFIX: valid flag, base, length and overlap count; an invalid entry has base 0 and length
  0 (R19, R30). -/
  | prefixIs (valid : Bool) (base length overlap : Nat)
  /-- LOAD DEVICE and CLEAR DEVICE: the entry's previous contents (R28, R29). -/
  | deviceWas (previous : Option Mapping)
  /-- READ DEVICE BY ENTRY: valid flag, bin and generation, 0 and 0 for an invalid entry (R20), and
  for a valid one whether its bin's backlink names it (R31). -/
  | deviceIs (valid : Bool) (bin generation : Nat) (backlinked : Option Bool)
  /-- READ DEVICE BY SENSOR (R31). -/
  | sensorIs (report : SensorReport)
  /-- LOAD BIN (R49): previous state, district, profile and generation, the state the load left, and
  whether a due entry removal was handed on. -/
  | binLoaded (was : BinState) (district profile generation : Option Nat) (left : BinState)
      (removed : Bool)
  /-- RETIRE BIN (R50): previous state, district and generation, the device entry made invalid, and
  whether the calibration entry was cleared. -/
  | binRetired (was : BinState) (district generation : Option Nat) (entry : Option Nat)
      (calibrationCleared : Bool)
  /-- CLEAR DISTRICT (R51): bins made EMPTY and device entries made invalid. -/
  | districtCleared (bins entries : Nat)
  /-- READ BIN (R53). -/
  | binIs (report : BinReport)
  /-- LOAD PROFILE (R66). -/
  | profileLoaded (before geometryChanged clampActed : Bool) (weight reset removals : Nat)
  /-- READ PROFILE (R67): the fields and the bins naming it in LEARNING, ACTIVE and SILENT. -/
  | profileIs (fields : Profile) (learning active silent : Nat)
  /-- READ OUTCOMES (R110): the 18 counts, in-flight and deferred counts, change wait limit. -/
  | outcomesAre (counts : List (BitVec 32)) (inFlight : Option Nat) (deferred changeWait : Nat)
  /-- One frame of a due list (R127). -/
  | dueList (frame : DueFrame)
  /-- LOAD WATCH MASK: how many masks changed (R140). -/
  | masksChanged (number : Nat)
  /-- READ COUNTERS (R142): counters, masks, records queued, records queued of this row. -/
  | countersAre (counters : List Nat) (masks : List MaskMode) (queued ofRow : Nat)
  /-- RESET COUNTERS: the values before the clear, or the class totals for ALL (R143). -/
  | countersWere (values : List Nat)
  /-- LOAD AUTHORITY: the previous sets (R165). -/
  | authorityWas (previous : Authority)
  /-- READ AUTHORITY (R166): the sets, N, and whether the credential is below N. -/
  | authorityIs (sets : Authority) (inUse : Nat) (below : Bool)
  /-- STORE CONFIG: the clamp list and whether a write was in progress (R176). -/
  | configStored (clamps : List Setting) (writing : Bool)
  /-- READ CONFIG (R177). -/
  | configIs (report : ConfigReport)
deriving DecidableEq, Repr

/-- A response of the response list (R151): the header fields and the frames not yet granted. -/
structure Response where
  tag : Nat
  op : Nat
  result : Result
  frames : List Contents
deriving DecidableEq, Repr

/-- The START body (R153, R178). -/
structure StartBody where
  cause : StartCause
  status : ConfigStatus
  protection : Protection
  family : Nat
  revision : Nat
deriving DecidableEq, Repr

/-- The kinds of summary (R156). -/
inductive SummaryKind where
  | scheduled | forced | catchUp
deriving DecidableEq, Repr

/-- The summary kind values of 12.4. -/
def SummaryKind.code : SummaryKind → Nat
  | .scheduled => 0
  | .forced => 1
  | .catchUp => 2

/-- The SUMMARY body (R156). -/
structure SummaryBody where
  district : Nat
  kind : SummaryKind
  debt : Nat
  active : Nat
  learning : Nat
  silent : Nat
  empty : Nat
  meanFill : Nat
  dueCrossed : Nat
  fullCrossed : Nat
  dueEntries : Nat
  time : PlannerTime
  quality : TimeQuality
  steps : Nat
deriving DecidableEq, Repr

/-- A frame the composer has granted the link. -/
inductive OutFrame where
  | start (body : StartBody)
  | response (tag op : Nat) (result : Result) (contents : Contents)
  | notice (records : List NoticeRecord)
  | summary (body : SummaryBody)
deriving DecidableEq, Repr

/-- A summary that is pending (R154). -/
inductive PendingSummary where
  | scheduled | forced
deriving DecidableEq, Repr

end Sys2Proof.Machine
end

