-- ==== Sys2Proof/Machine/Flags.lean ====
section
/-! DEFINITION. The flags of a bin record: when each rises, clears or keeps its value. -/

namespace Sys2Proof.Machine

/-- A flag with hysteresis on a fill (R90): it rises at or above the threshold and clears below the
threshold less 50; between the two it keeps its value. -/
def crossedNext (flag : Bool) (threshold fill : Nat) : Bool :=
  if threshold ≤ fill then true else if fill + 50 < threshold then false else flag

/-- The due crossed flag with its crossed-at time (R90): on rising the time is the reading's
arrival. -/
def dueCrossedNext (flag : Option Nat) (threshold fill arrival : Nat) : Option Nat :=
  if crossedNext flag.isSome threshold fill then
    match flag with
    | some t => some t
    | none => some arrival
  else none

/-- The fast fill flag after a rate has been computed (R90): it rises above a limit that is not 0,
and clears at or below the limit; a limit of 0 clears it. -/
def fastFillNext (limit rate : Nat) : Bool := decide (0 < limit) && decide (limit < rate)

/-- The battery low flag after a battery value (R38): it rises below the limit and clears above the
limit plus 100 mV. -/
def batteryLowNext (flag : Bool) (limit battery : Nat) : Bool :=
  if battery < limit then true else if limit + 100 < battery then false else flag

/-- The heaped flag after a selected surface distance (R85): on a LITTER bin it is set below the
mouth, and it clears at the mouth or beyond. -/
def heapedNext (p : Profile) (s : Int) : Bool :=
  decide (p.kind = .litter) && decide (s < (p.mouth : Int))

/-- Did a flag rise? -/
def rose (before after : Bool) : Bool := !before && after

end Sys2Proof.Machine
end

