-- ==== Sys2Proof/Machine/Limits.lean ====
section
/-! DEFINITION. The sizes of the tables and queues, the fixed limits, the factory record and the
part identity, each with the rule that gives it. -/

namespace Sys2Proof.Machine

/-- Entries of the merge window (R5). -/
def windowSize : Nat := 64
/-- Places of the admission queue (R12). -/
def admissionSize : Nat := 16
/-- Places of the deferred queue (R102). -/
def deferredSize : Nat := 32
/-- Estimate slots (R70). -/
def slotCount : Nat := 4
/-- Entries of the prefix table (R19). -/
def prefixCount : Nat := 64
/-- Bins, calibration entries and device-table entries (R20, R33). -/
def binCount : Nat := 8192
/-- Profiles (R56). -/
def profileCount : Nat := 32
/-- Districts (R100). -/
def districtCount : Nat := 16
/-- The unplaced row, which is also the device row (R131, R164). -/
def unplacedRow : Nat := 16
/-- Rows of the masks, counters and tallies (R99, R132). -/
def rowCount : Nat := 17
/-- Watch classes (R130). -/
def classCount : Nat := 16
/-- Counts of a row's outcome tally (R99). -/
def tallyCount : Nat := 18
/-- Places of the collection-due queue (R113). -/
def dueSize : Nat := 512
/-- Records of the notice queue (R136). -/
def noticeSize : Nat := 128
/-- The largest value of a watch counter (R134). -/
def counterMax : Nat := 65535
/-- Requests of the management queue (R160). -/
def queueSize : Nat := 8
/-- Responses of the response list (R151). -/
def responseSize : Nat := 16
/-- The response list holds fewer than this many when a request becomes the head (R151, R161). -/
def headRoom : Nat := 12
/-- Credentials that the authority table holds (R163). -/
def credentialCount : Nat := 8
/-- Records of one NOTICE frame, and how many make the queue ready (R152). -/
def noticeBatch : Nat := 8
/-- Records of the notice queue that make the link congested (R154). -/
def congestedNotices : Nat := 64
/-- The largest summary debt (R154). -/
def debtMax : Nat := 8
/-- The largest time-step count (R156). -/
def stepsMax : Nat := 255
/-- Entries of one due-list frame (R127). -/
def dueFrameSize : Nat := 32
/-- The beacon tolerance in seconds (R172). -/
def beaconTolerance : Nat := 2
/-- The family code of the part identity (R178). -/
def familyCode : Nat := 0x8140
/-- The revision number of the part identity (R178). -/
def revisionNumber : Nat := 2

/-- The factory defaults of R174, as the settings block leaves the factory. -/
def factoryBlock : StoredSettings where
  mergeWindow := 1500
  sweepInterval := 300
  dueHorizon := 14
  changeWait := 5
  noticeHold := 2000
  summaryInterval := 900
  beaconLoss := 600
  credentials := 1

/-- The factory defaults of R174, as a start puts them in force. -/
def factorySettings : Settings := factoryBlock.values

/-- A protection copy as it leaves the factory: NONE and an empty district set (R174). -/
def factoryCopy : ProtectionCopy := { level := 0, districts := 0 }

/-- The default mode of a class (R132): NOTIFY for DUE, FULL, COLLECTED and SILENT, COUNT for the
other twelve. -/
def defaultMode (cls : Nat) : MaskMode :=
  if cls = 0 ∨ cls = 1 ∨ cls = 3 ∨ cls = 5 then .notify else .count

end Sys2Proof.Machine
end

