-- ==== Sys2Proof/Machine/Operands.lean ====
section
/-! DEFINITION. The fields of an intake payload (R2, R180) and of a management request's argument
block (R182), read at the offsets of chapter 12. -/

namespace Sys2Proof.Machine

/-! ### Intake payloads (12.1) -/

/-- The sensor id of a payload. -/
def sensorOf (p : List Byte) : SensorId := BitVec.ofNat 32 (word32At p 0)

/-- The frame count of a payload. -/
def countOf (p : List Byte) : FrameCount := BitVec.ofNat 16 (word16At p 4)

/-- The kind of a payload; none for a byte that names none. -/
def kindOf (p : List Byte) : Option FrameKind := FrameKind.ofCode (byteAt p 6)

/-- The echo count of a READING. -/
def echoCount (p : List Byte) : Nat := byteAt p 7

/-- The length a payload's kind requires (R3). -/
def requiredPayload (k : FrameKind) (p : List Byte) : Nat :=
  match k with
  | .reading => 13 + 2 * echoCount p
  | .status => 10
  | .install => 10

/-- The form checks of R3 in their order: the detail of the first that fails. -/
def formFault (radio : Byte) (p : List Byte) : Option FormDetail :=
  if !radio.getLsbD 0 then some .radioCheck
  else if p.length < 7 then some .length
  else match kindOf p with
    | none => some .badKind
    | some k =>
        if k = .reading ∧ p.length < 8 then some .length
        else if k = .reading ∧ 4 < echoCount p then some .echoCount
        else if p.length ≠ requiredPayload k p then some .length
        else none

/-- The raw echo distances of a READING; a field above 4,095 is taken as 4,095 (R2, R180). -/
def echoesOf (p : List Byte) : List Nat :=
  (List.range (echoCount p)).map fun i => min 4095 (word16At p (8 + 2 * i))

/-- The temperature field of a READING. -/
def tempOf (p : List Byte) : Int := signed16At p (8 + 2 * echoCount p)

/-- The offset of the flags byte, which the battery field follows (12.1). -/
def flagsOffset (p : List Byte) : Nat :=
  match kindOf p with
  | some .reading => 10 + 2 * echoCount p
  | _ => 7

/-- Bits 0 and 1 of the flags byte: 1 lid open, 2 tilted, 3 both (R180). -/
def lidOf (p : List Byte) : Nat := byteAt p (flagsOffset p) % 4

/-- The battery a frame carries: 0xFFFF is absent, a field above 5,000 is taken as 5,000 (R180). -/
def batteryOf (p : List Byte) : Option Nat :=
  let v := word16At p (flagsOffset p + 1)
  if v = 65535 then none else some (min v 5000)

/-- The origin of an event a payload raises: its sensor id and frame count. -/
def originOf (p : List Byte) : Option (SensorId × FrameCount) := some (sensorOf p, countOf p)

/-! ### The two parts of a sensor id (R18) -/

/-- The prefix: the high 8 bits. -/
def prefixOf (id : SensorId) : Nat := id.toNat / 16777216

/-- The device index: the low 24 bits. -/
def indexOf (id : SensorId) : Nat := id.toNat % 16777216

/-! ### Requests (12.3) -/

/-- The known operations (R182). -/
inductive Operation where
  | loadPrefix | clearPrefix | readPrefix | loadDevice | clearDevice | readDevice | loadBin
  | retireBin | clearDistrict | readBin | loadProfile | readProfile | readOutcomes | requestDueList
  | loadWatchMask | readCounters | resetCounters | loadAuthority | readAuthority | storeConfig
  | readConfig | restart
deriving DecidableEq, Repr

/-- The operations in the order of their codes 0x01 to 0x16. -/
def operations : List Operation :=
  [.loadPrefix, .clearPrefix, .readPrefix, .loadDevice, .clearDevice, .readDevice, .loadBin,
    .retireBin, .clearDistrict, .readBin, .loadProfile, .readProfile, .readOutcomes,
    .requestDueList, .loadWatchMask, .readCounters, .resetCounters, .loadAuthority,
    .readAuthority, .storeConfig, .readConfig, .restart]

/-- The operation a code names; any other code is unknown (R162). -/
def Operation.ofCode (n : Nat) : Option Operation :=
  if n = 0 then none else operations[n - 1]?

/-- The request in a MANAGEMENT body: none when the body is shorter than the request header (R159). -/
def requestOf (body : List Byte) : Option Request :=
  if body.length < 6 then none
  else some { tag := word16At body 0, credential := byteAt body 2, op := byteAt body 3,
              argLen := word16At body 4, args := body.drop 6 }

/-- The operation of a request. -/
def Request.operation (r : Request) : Option Operation := Operation.ofCode r.op

/-- A 1-byte argument. -/
def Request.arg8 (r : Request) (i : Nat) : Nat := byteAt r.args i

/-- A 2-byte argument. -/
def Request.arg16 (r : Request) (i : Nat) : Nat := word16At r.args i

/-- The option that bit 0 of an options byte gives (R181). -/
def Request.option (r : Request) (i : Nat) : Bool := decide (byteAt r.args i % 2 = 1)

/-- A row set: 3 bytes, bits 17 to 23 not examined (R181). -/
def Request.rowSet (r : Request) (i : Nat) : RowSet := BitVec.ofNat 17 (word24At r.args i)

/-- A 2-byte field as bits: a set of districts or classes (R181), or a stored setting (R174). -/
def Request.set16 (r : Request) (i : Nat) : BitVec 16 := BitVec.ofNat 16 (word16At r.args i)

/-- The argument length an operation requires (R182); none when the block is too short to hold its
list's count field (R162). -/
def Request.required (r : Request) : Operation → Option Nat
  | .loadPrefix => some 5
  | .clearPrefix => some 1
  | .readPrefix => some 1
  | .loadDevice => some 5
  | .clearDevice => some 2
  | .readDevice => some 5
  | .loadBin => some 6
  | .retireBin => some 3
  | .clearDistrict => some 2
  | .readBin => some 3
  | .loadProfile => if 30 ≤ r.args.length then some (30 + 4 * r.arg8 29) else none
  | .readProfile => some 1
  | .readOutcomes => some 1
  | .requestDueList => if 5 ≤ r.args.length then some (5 + r.arg8 4) else none
  | .loadWatchMask => some 4
  | .readCounters => some 2
  | .resetCounters => some 3
  | .loadAuthority => some 7
  | .readAuthority => some 1
  | .storeConfig => some 19
  | .readConfig => some 0
  | .restart => some 0

/-- Check 1 of R162 beyond the operation: the argument length is the required one, and the block
holds exactly that many bytes. -/
def Request.lengthFits (r : Request) (op : Operation) : Bool :=
  r.required op == some r.argLen && r.args.length == r.argLen

/-- The rows a row selector byte names (R181): one row, every row for 0xFF, or none. -/
def selectedRows (n : Nat) : Option (List Nat) :=
  if n < rowCount then some [n] else if n = 0xFF then some (List.range rowCount) else none

/-- The classes of a class set, ascending. -/
def classesOf (set : ClassSet) : List Nat := (List.range classCount).filter set.getLsbD

/-- The points of a LOAD PROFILE argument block. -/
def Request.points (r : Request) : List (Nat × Nat) :=
  (List.range (r.arg8 29)).map fun i => (r.arg16 (30 + 4 * i), r.arg16 (32 + 4 * i))

/-- The profile fields of a LOAD PROFILE argument block, with the kind given (12.3). -/
def Request.profileFields (r : Request) (kind : ProfileKind) : Profile where
  kind := kind
  depth := r.arg16 2
  mouth := r.arg16 4
  weight := r.arg8 6
  track := r.arg16 7
  defaultTemp := signed16At r.args 9
  dueAt := r.arg16 11
  fullAt := r.arg16 13
  drop := r.arg16 15
  fastLimit := r.arg16 17
  minSpan := word32At r.args 19
  silenceLimit := word32At r.args 23
  batteryLimit := r.arg16 27
  points := r.points

/-- The kind of a LOAD PROFILE argument block. -/
def Request.profileKind (r : Request) : Option ProfileKind :=
  if r.arg8 1 = 0 then some .litter else if r.arg8 1 = 1 then some .glass else none

/-- The profile a LOAD PROFILE argument block describes; none where its kind names none. -/
def Request.profile (r : Request) : Option Profile := r.profileKind.map r.profileFields

/-- The districts a REQUEST DUE LIST names, as listed. -/
def Request.districts (r : Request) : List Nat :=
  (List.range (r.arg8 4)).map fun i => r.arg8 (5 + i)

/-- The record a STORE CONFIG carries; with NONE or ALL the district set is stored empty (R176). -/
def Request.record (r : Request) : StartRecord where
  settings :=
    { mergeWindow := r.set16 0, sweepInterval := r.set16 2, dueHorizon := r.set16 4,
      changeWait := r.set16 6, noticeHold := r.set16 8, summaryInterval := r.set16 10,
      beaconLoss := r.set16 12, credentials := r.set16 14 }
  protection :=
    { level := r.arg8 16, districts := if r.arg8 16 = 1 then r.set16 17 else 0 }

end Sys2Proof.Machine
end

