-- ==== Sys2Proof/Machine/Record.lean ====
section
/-! DEFINITION. The stored start record (R174): the check of a settings block, the clamps a start
makes, and the protection that three copies put in force (R175). -/

namespace Sys2Proof.Machine

/-- The settings block as bytes, each setting a 16-bit number in the order of R174 (DEDUCED, log
entry 7: most significant byte first, as every multi-byte field of chapter 12). -/
def StoredSettings.bytes (s : StoredSettings) : List Byte :=
  [s.mergeWindow, s.sweepInterval, s.dueHorizon, s.changeWait, s.noticeHold, s.summaryInterval,
    s.beaconLoss, s.credentials].flatMap fun v => bytes16 v.toNat

/-- The 16-bit check of a settings block: the CRC of the planner link over the settings (11.3). -/
def StoredSettings.check (s : StoredSettings) : BitVec 16 := crc16 s.bytes

/-- The nearest value of a range low..high (R174). -/
def clampTo (low high n : Nat) : Nat := if n < low then low else if high < n then high else n

/-- The settings that a record puts in force (R174); the merge window length is besides rounded down
to a multiple of 250. -/
def Settings.clamped (s : Settings) : Settings where
  mergeWindow := clampTo 0 8000 s.mergeWindow / 250 * 250
  sweepInterval := clampTo 60 3600 s.sweepInterval
  dueHorizon := clampTo 1 30 s.dueHorizon
  changeWait := clampTo 1 60 s.changeWait
  noticeHold := clampTo 0 10000 s.noticeHold
  summaryInterval := clampTo 60 3600 s.summaryInterval
  beaconLoss := clampTo 60 3600 s.beaconLoss
  credentials := clampTo 1 8 s.credentials

/-- The clamp list of a settings block: the settings that R174 adjusts, in its order. -/
def StoredSettings.clampList (block : StoredSettings) : List Setting :=
  let s := block.values
  let c := s.clamped
  let held : List (Setting × Nat × Nat) :=
    [(.mergeWindow, s.mergeWindow, c.mergeWindow), (.sweepInterval, s.sweepInterval, c.sweepInterval),
      (.dueHorizon, s.dueHorizon, c.dueHorizon), (.changeWait, s.changeWait, c.changeWait),
      (.noticeHold, s.noticeHold, c.noticeHold),
      (.summaryInterval, s.summaryInterval, c.summaryInterval),
      (.beaconLoss, s.beaconLoss, c.beaconLoss), (.credentials, s.credentials, c.credentials)]
  (held.filter fun e => e.2.1 != e.2.2).map (·.1)

/-- The protection a copy holds, if it is a valid one (R175): NONE, ALL, or DISTRICTS with a
non-empty set. -/
def ProtectionCopy.valid (c : ProtectionCopy) : Option Protection :=
  if c.level = 0 then some .none
  else if c.level = 1 ∧ c.districts ≠ 0 then some (.districts c.districts)
  else if c.level = 2 then some .all
  else none

/-- The protection three copies put in force, or none where they do not give a valid one (R175). -/
def agreedProtection (c1 c2 c3 : ProtectionCopy) : Option Protection :=
  if c1 = c2 ∧ c2 = c3 then c1.valid else none

end Sys2Proof.Machine
end

