-- ==== Sys2Proof/Machine/State.lean ====
section
/-! DEFINITION. The state of the part: everything the manual gives each of its blocks, as plain data,
and the commands that wait to be taken. -/

namespace Sys2Proof.Machine

/-- The timebase (R171). -/
structure Timebase where
  /-- Local milliseconds since power-on. -/
  localMs : Nat
  /-- The planner offset in seconds. -/
  offset : Int
  state : TimeState
  /-- Is the beacon-loss timer running? -/
  lossRunning : Bool
  /-- Local seconds of the last TIME beacon taken. -/
  lastBeacon : Option Nat
deriving DecidableEq, Repr

/-- The intake port, the merge window in opening order and the admission queue in joining order. -/
structure Intake where
  lastChain : Nat
  window : List MergeEntry
  admission : List Frame
deriving DecidableEq, Repr

/-- The prefix table and the device table; an unlisted entry is invalid (R19, R20). -/
structure Translation where
  prefixes : Table Segment
  devices : Table Mapping
deriving DecidableEq, Repr

/-- The bin record table. An unlisted record is `BinRecord.vacant`. A calibration entry is listed
with its offset exactly when it is learned (R34). The sweep timer is stopped, or holds the local
milliseconds of its next expiry (R43). -/
structure Bins where
  records : Table BinRecord
  calibration : Table Int
  sweepDue : Option Nat
deriving DecidableEq, Repr

/-- The gate block. Unlisted gates are OPEN, unlisted counts are 0. A tally count stands under
row × 18 + its place (R99). -/
structure Gates where
  states : Table GateState
  inFlight : Table Nat
  change : Option PendingChange
  deferred : List DeferredFrame
  tallies : Table (BitVec 32)
deriving DecidableEq, Repr

/-- The watch unit. Masks and counters stand under row × 16 + class; an unlisted mask has its
default mode (R132), an unlisted counter is 0. The notice queue is oldest first. -/
structure Watch where
  masks : Table MaskMode
  counters : Table Nat
  notices : List NoticeRecord
deriving DecidableEq, Repr

/-- The report composer. -/
structure Composer where
  paused : Bool
  responses : List Response
  /-- The frame being sent; the link is free when there is none (R150). -/
  sending : Option OutFrame
  /-- Is the START frame of this start still to be granted (R153)? -/
  startPending : Bool
  pendingSummary : Option PendingSummary
  debt : Nat
  rotation : Nat
  steps : Nat
  /-- Local milliseconds of the summary timer's next expiry; none while it is stopped (R154). -/
  summaryDue : Option Nat
deriving DecidableEq, Repr

/-- The management interpreter. An unlisted credential 1..7 has empty sets; credential 0 holds every
row and is not listed (R163). -/
structure Management where
  queue : List Request
  authority : Table Authority
deriving DecidableEq, Repr

/-- The nonvolatile start record and what the store is doing with it (R174, R176). -/
structure Store where
  settings : StoredSettings
  check : BitVec 16
  copy1 : ProtectionCopy
  copy2 : ProtectionCopy
  copy3 : ProtectionCopy
  waiting : Option StartRecord
  writing : Option StoreWrite
deriving DecidableEq, Repr

/-- What the last start put in force, and what it reports (R175, R178). -/
structure InForce where
  settings : Settings
  protection : Protection
  cause : StartCause
  status : ConfigStatus
  clamps : List Setting
deriving DecidableEq, Repr

/-- The state. -/
structure State where
  /-- Commands waiting to be taken, first in, first out. -/
  pending : List Instr
  phase : Phase
  /-- The reset line: true while it is asserted. -/
  resetLine : Bool
  time : Timebase
  intake : Intake
  translation : Translation
  bins : Bins
  profiles : Table Profile
  /-- The busy estimate slots; their numbers have no effect (R70). -/
  slots : List Estimate
  gates : Gates
  /-- The collection-due queue, by ascending key (R113). -/
  due : List DueEntry
  watch : Watch
  composer : Composer
  management : Management
  store : Store
  inForce : InForce
  /-- The MODEL's own field: how many free values have been drawn (log entry 5). -/
  drawn : Nat
deriving DecidableEq, Repr

/-- Why the part could stop with a fault. The manual names no condition that stops it, so there is
none: this type has no value, and no command faults. -/
inductive Fault where
deriving DecidableEq, Repr

/-- Why a command could be refused. -/
inductive Refusal where
  /-- Raised by `exec` for a command that has no meaning yet; safe, since nothing is claimed of a
  refused command. Every command has its meaning, so no arm raises it. -/
  | notModelled (mnemonic : String)
deriving DecidableEq, Repr

/-- The timebase at power-on (R171). -/
def Timebase.reset : Timebase :=
  { localMs := 0, offset := 0, state := .unset, lossRunning := false, lastBeacon := none }

/-- The intake side at power-on (R16). -/
def Intake.reset : Intake := { lastChain := 3, window := [], admission := [] }

/-- The translation tables at power-on (R32). -/
def Translation.reset : Translation := { prefixes := .empty, devices := .empty }

/-- The bin record table at power-on (R55). -/
def Bins.reset : Bins := { records := .empty, calibration := .empty, sweepDue := none }

/-- The gate block at power-on and after a restart (R111). -/
def Gates.reset : Gates :=
  { states := .empty, inFlight := .empty, change := none, deferred := [], tallies := .empty }

/-- The watch unit at power-on (R145). -/
def Watch.reset : Watch := { masks := .empty, counters := .empty, notices := [] }

/-- The composer at power-on and after a restart (R158). -/
def Composer.reset : Composer :=
  { paused := false, responses := [], sending := none, startPending := false,
    pendingSummary := none, debt := 0, rotation := 0, steps := 0, summaryDue := none }

/-- The management interpreter at power-on (R169). -/
def Management.reset : Management := { queue := [], authority := .empty }

/-- The start record as it leaves the factory (R174), with no write under way. -/
def Store.factory : Store :=
  { settings := factoryBlock, check := factoryBlock.check, copy1 := factoryCopy,
    copy2 := factoryCopy, copy3 := factoryCopy, waiting := none, writing := none }

/-- What stands in force before the first start has read the record: nothing reads it (DESIGN
CHOICE, log entry 2). -/
def InForce.reset : InForce :=
  { settings := factorySettings, protection := .none, cause := .powerOn, status := .ok, clamps := [] }

/-- The machine right after reset: a part fresh from the factory at power-on, in step 1 of a start
with cause POWER_ON (R178), every block in its power-on state. -/
def State.reset : State :=
  { pending := []
    phase := .starting .powerOn
    resetLine := false
    time := .reset
    intake := .reset
    translation := .reset
    bins := .reset
    profiles := .empty
    slots := []
    gates := .reset
    due := []
    watch := .reset
    composer := .reset
    management := .reset
    store := .factory
    inForce := .reset
    drawn := 0 }

end Sys2Proof.Machine
end

