-- ==== Sys2Proof/Config.lean ====
section
/-! DEFINITION. What the part's construction fixes, and the free values: constants with no body, of
which nothing can be proved. The sizes and fixed limits of the blocks stand in Machine/Limits.lean. -/

namespace Sys2Proof

/-- FREE VALUE (log entry 4). The fields an estimate or a sweep would read from a profile that is
not loaded. The manual has every assigned bin name a loaded profile (R56), so no run reads it. -/
opaque Config.unloadedProfile : Nat → Machine.Profile

/-- FREE VALUE (log entry 5). Whether a store write reaches its next part at the n-th chance. R176
gives the order of the parts and a bound of 200 ms, not their times. -/
opaque Config.storeReaches : Nat → Bool

/-- FREE VALUE (log entry 6). The settings that a write cut off inside the settings block leaves:
eight 16-bit numbers, as the block stores them (R174). -/
opaque Config.tornSettings : Nat → Machine.StoredSettings

/-- FREE VALUE (log entry 6). How the check of a block cut off inside differs from the check of its
contents; R176 says that it does not match. -/
opaque Config.tornCheck : Nat → BitVec 16

/-- FREE VALUE (log entry 6). What a write cut off inside a protection copy leaves in that copy. -/
opaque Config.tornCopy : Nat → Machine.ProtectionCopy

end Sys2Proof
end

