-- ==== Sys2Proof/Machine/Store.lean ====
section
/-! DEFINITION. The nonvolatile store (R174 to R177): how a write goes on part by part, what it holds
where a write has not come to its end, and what a start puts in force from it. -/

namespace Sys2Proof.Machine

/-- The settings block written, with its new check. -/
def Store.writeBlock (s : StoredSettings) (st : Store) : Store :=
  { st with settings := s, check := s.check }

/-- The whole record written (R176). -/
def Store.finish (w : StoreWrite) (st : Store) : Store :=
  { st.writeBlock w.record.settings with
    copy1 := w.record.protection
    copy2 := w.record.protection
    copy3 := w.record.protection
    writing := none }

/-- The part being written reaches its end (R176): it holds the new contents, and the next part is
begun. With the last part the write ends. -/
def Store.advance (w : StoreWrite) (st : Store) : Store :=
  match w.point with
  | .block => { st.writeBlock w.record.settings with writing := some { w with point := .copy1 } }
  | .copy1 => { st with copy1 := w.record.protection, writing := some { w with point := .copy2 } }
  | .copy2 => { st with copy2 := w.record.protection, writing := some { w with point := .copy3 } }
  | .copy3 => st.finish w

/-- The check a block cut off inside holds: any that does not match its contents (R176). -/
def tornBlockCheck (s : StoredSettings) (e : BitVec 16) : BitVec 16 := s.check ^^^ (if e = 0 then 1 else e)

/-- What a write cut off inside a protection copy leaves in it, beside the two other copies `a` and
`b`: anything (log entry 6), but never a value that would leave all three equal (R176). -/
def tornValue (torn old new a b : ProtectionCopy) : ProtectionCopy :=
  if torn = a ∧ a = b then (if a = new then old else new) else torn

/-- The copy being written when a write is cut off; where the new protection equals the old, the copy
is as it was. -/
def cutCopy (torn old new a b : ProtectionCopy) : ProtectionCopy :=
  if old = new then new else tornValue torn old new a b

/-- Loss of power cuts a write off where it stands (R176). `n` draws the free values (log entry
6). -/
def Store.cutOff (n : Nat) (st : Store) : Store :=
  let cut := match st.writing with
    | none => st
    | some w =>
        let new := w.record.protection
        match w.point with
        | .block => { st with settings := Config.tornSettings n,
                              check := tornBlockCheck (Config.tornSettings n) (Config.tornCheck n) }
        | .copy1 => { st with copy1 := cutCopy (Config.tornCopy n) st.copy1 new st.copy2 st.copy3 }
        | .copy2 => { st with copy2 := cutCopy (Config.tornCopy n) st.copy2 new st.copy1 st.copy3 }
        | .copy3 => { st with copy3 := cutCopy (Config.tornCopy n) st.copy3 new st.copy1 st.copy2 }
  { cut with waiting := none, writing := none }

/-- What the store holds at this moment (R177): as far as a write has reached. The part being written
holds what R176 says a cut at this moment would leave in it (log entry 24). -/
def State.heldNow (s : State) : Store := s.store.cutOff s.drawn

/-- What a start puts in force from the record (R175). -/
def Store.putInForce (st : Store) (cause : StartCause) : InForce :=
  if st.check ≠ st.settings.check then
    { settings := factorySettings, protection := .all, cause := cause, status := .defaulted,
      clamps := [] }
  else
    { settings := st.settings.values.clamped
      protection := (agreedProtection st.copy1 st.copy2 st.copy3).getD .all
      cause := cause
      status :=
        if (agreedProtection st.copy1 st.copy2 st.copy3).isNone then .protectMismatch
        else if st.settings.clampList ≠ [] then .clamped
        else .ok
      clamps := st.settings.clampList }

end Sys2Proof.Machine
end

