-- ==== Sys2Proof/Machine/Ops.lean ====
section
/-! DEFINITION. The named operations that the commands share: time, rows, table reads and writes,
events and tallies, hand-overs to the collection-due queue, gates, and the restart state. -/

namespace Sys2Proof.Machine

/-! ### Time (R171) -/

/-- Local seconds: local milliseconds div 1000. -/
def Timebase.seconds (t : Timebase) : Nat := t.localMs / 1000

/-- A local time as it is sent: plus the planner offset, modulo 2^32 (R181). -/
def Timebase.planner (t : Timebase) (seconds : Nat) : PlannerTime :=
  BitVec.ofInt 32 ((seconds : Int) + t.offset)

/-- The time quality the timebase sends. -/
def Timebase.quality (t : Timebase) : TimeQuality := t.state.quality

/-- The next expiry of a timer that runs every `interval` seconds, in local milliseconds: one
interval after its previous expiry, or after its start (R43, R154). -/
def nextExpiry (previous interval : Nat) : Nat := previous + interval * 1000

/-- Is the part running: has the start put the stored configuration in force (R178)? -/
def State.isRunning (s : State) : Bool :=
  match s.phase with
  | .running => true
  | _ => false

/-- An event of a block takes place only while the part runs; otherwise it does not occur. -/
def State.whenRunning (s : State) (f : State → State) : State := if s.isRunning then f s else s

/-! ### Bin records, calibration, profiles -/

/-- The record of a bin. -/
def State.record (s : State) (b : Nat) : BinRecord := s.bins.records.read .vacant b

/-- Write the record of a bin. -/
def State.setRecord (b : Nat) (r : BinRecord) (s : State) : State :=
  { s with bins := { s.bins with records := s.bins.records.write .vacant b r } }

/-- What a bin's record holds while it is not EMPTY. -/
def State.assigned (s : State) (b : Nat) : Option Assigned := (s.record b).assigned

/-- Write what a bin's record holds, keeping its mapped device entry and unqueued flag. -/
def State.setAssigned (b : Nat) (a : Option Assigned) (s : State) : State :=
  s.setRecord b { s.record b with assigned := a }

/-- Write a bin's unqueued flag. -/
def State.setUnqueued (b : Nat) (f : Bool) (s : State) : State :=
  s.setRecord b { s.record b with unqueued := f }

/-- Write a bin's mapped device entry. -/
def State.setMapped (b : Nat) (e : Option Nat) (s : State) : State :=
  s.setRecord b { s.record b with mapped := e }

/-- The offset a bin's calibration entry holds, present exactly when it is learned (R34). -/
def State.learned (s : State) (b : Nat) : Option Int := s.bins.calibration.get b

/-- Write a bin's calibration entry: learned with an offset, or not learned. -/
def State.setLearned (b : Nat) (c : Option Int) (s : State) : State :=
  { s with bins := { s.bins with calibration := s.bins.calibration.set b c } }

/-- The profile with a number. A bin always names a loaded one (R56); the fields of one that is not
loaded are a free value (log entry 4). -/
def State.profileOf (s : State) (p : Nat) : Profile :=
  (s.profiles.get p).getD (Config.unloadedProfile p)

/-- The row of a bin: its record's district, or row 16 when the record is EMPTY or the number is out
of range (R28). -/
def State.rowOfBin (s : State) (b : Nat) : Nat :=
  if b < binCount then
    match s.assigned b with
    | some a => a.district
    | none => unplacedRow
  else unplacedRow

/-- The districts a bin adds to a gate set: its record's district, or none when EMPTY (6.4). -/
def State.districtsOfBin (s : State) (b : Nat) : List Nat :=
  match s.assigned b with
  | some a => [a.district]
  | none => []

/-- The reported fill of an F16 value (R33). -/
def fillOf (f16 : Nat) : Nat := (f16 + 8) / 16

/-- The reported fill a bin holds, or 0 when F16 is absent. -/
def Assigned.fillOrZero (a : Assigned) : Nat :=
  match a.f16 with
  | some f => fillOf f
  | none => 0

/-- Clear the dynamic fill state (R33); the unqueued flag is cleared by the queue's removal. -/
def Assigned.clearFill (a : Assigned) : Assigned :=
  { a with f16 := none, surface := none, anchor := none, rate := none, dueCrossed := none,
           fullCrossed := false, heaped := false, fastFill := false }

/-- ACTIVE with the stored offset where the calibration entry is learned, else LEARNING with
offset 0 (R39, R47, R48). -/
def Assigned.byCalibration (a : Assigned) (c : Option Int) : Assigned :=
  match c with
  | some offset => { a with state := .active, offset := offset }
  | none => { a with state := .learning, offset := 0 }

/-! ### The watch unit (R133 to R137) -/

/-- The watch mask of a row and class; an unlisted mask has the power-on default (R132). -/
def Watch.mode (w : Watch) (row cls : Nat) : MaskMode :=
  w.masks.read (defaultMode cls) (row * classCount + cls)

/-- Set a watch mask. -/
def Watch.setMode (row cls : Nat) (m : MaskMode) (w : Watch) : Watch :=
  { w with masks := w.masks.write (defaultMode cls) (row * classCount + cls) m }

/-- The watch counter of a row and class. -/
def Watch.counter (w : Watch) (row cls : Nat) : Nat := w.counters.read 0 (row * classCount + cls)

/-- Set a watch counter. -/
def Watch.setCounter (row cls n : Nat) (w : Watch) : Watch :=
  { w with counters := w.counters.write 0 (row * classCount + cls) n }

/-- A watch counter rises by one, saturating (R134). -/
def Watch.countUp (row cls : Nat) (w : Watch) : Watch :=
  if w.counter row cls < counterMax then w.setCounter row cls (w.counter row cls + 1) else w

/-- The record made of an event, stamped with the timebase as it stands at the raise (R135). -/
def noticeOf (t : Timebase) (companion : Bool) (e : Event) : NoticeRecord :=
  { cls := e.cls, row := e.row, bin := e.bin, origin := e.origin, time := t.planner t.seconds,
    quality := t.quality, value := e.value, companion := companion, raisedAt := t.localMs }

/-- Does the watch unit classify an event as NOTIFY? -/
def Watch.notifies (w : Watch) (e : Event) : Bool := w.mode e.row e.cls.num == .notify

/-- The watch unit takes one event (R133): ignored, counted, or placed at the end of the notice
queue, or counted when that is full. -/
def Watch.take (t : Timebase) (companion : Bool) (w : Watch) (e : Event) : Watch :=
  match w.mode e.row e.cls.num with
  | .off => w
  | .count => w.countUp e.row e.cls.num
  | .notify =>
      if w.notices.length < noticeSize then
        { w with notices := w.notices ++ [noticeOf t companion e] }
      else w.countUp e.row e.cls.num

/-- The watch unit takes a group (R137): its records are companions when two or more of its events
are NOTIFY. A single event is a group of one. -/
def Watch.takeGroup (t : Timebase) (w : Watch) (es : List Event) : Watch :=
  es.foldl (Watch.take t (decide (2 ≤ (es.filter w.notifies).length))) w

/-- Raise a group of events. -/
def State.raiseGroup (es : List Event) (s : State) : State :=
  { s with watch := s.watch.takeGroup s.time es }

/-- Raise a single event. -/
def State.raise (e : Event) (s : State) : State := s.raiseGroup [e]

/-- The value of an event that carries a code with a detail: the code in the high byte (R180). -/
def codeValue (code detail : Nat) : Int := ((code * 256 + detail : Nat) : Int)

/-- The MALFORMED event of the planner-link receiver (R147, R151, R159). -/
def State.raiseLinkFault (d : LinkDetail) (s : State) : State :=
  s.raise { cls := .malformed, row := unplacedRow, bin := none, origin := none,
            value := codeValue 0x30 d.num }

/-! ### Outcome tallies (R99) -/

/-- A count of a row's tally. -/
def Gates.tally (g : Gates) (row place : Nat) : BitVec 32 := g.tallies.read 0 (row * tallyCount + place)

/-- A count of a row's tally rises by one; from its largest value it becomes 0. -/
def Gates.tallyUp (row place : Nat) (g : Gates) : Gates :=
  { g with tallies := g.tallies.write 0 (row * tallyCount + place) (g.tally row place + 1) }

/-- Tally an outcome in a row. -/
def State.tallyOutcome (row : Nat) (o : OutcomeCode) (s : State) : State :=
  { s with gates := s.gates.tallyUp row o.place }

/-- Tally the outcome of a completed frame (R93, R99): APPLIED without details, otherwise FLAGGED
and each detail. -/
def State.tallyCompletion (row : Nat) (details : List FlagDetail) (s : State) : State :=
  if details = [] then s.tallyOutcome row .applied
  else { s with gates := details.foldl (fun g d => g.tallyUp row d.place)
                           (s.gates.tallyUp row OutcomeCode.flagged.place) }

/-! ### Hand-overs to the collection-due queue (R114 to R119) -/

/-- Is one key smaller than another (R113)? -/
def DueEntry.before (a b : DueEntry) : Bool :=
  decide (a.due < b.due) || (decide (a.due = b.due) && decide (a.bin < b.bin))

/-- Place an entry at its key's position. -/
def insertDue (e : DueEntry) : List DueEntry → List DueEntry
  | [] => [e]
  | x :: rest => if e.before x then e :: x :: rest else x :: insertDue e rest

/-- Take a bin's entry out. -/
def dropDue (b : Nat) (q : List DueEntry) : List DueEntry := q.filter fun e => e.bin != b

/-- A bin's entry, if it has one. -/
def State.dueEntry (s : State) (b : Nat) : Option DueEntry := s.due.find? fun e => e.bin == b

/-- Put an entry in a queue that has room for it; its bin's unqueued flag is cleared (R115). -/
def State.placeDue (e : DueEntry) (q : List DueEntry) (s : State) : State :=
  State.setUnqueued e.bin false { s with due := insertDue e q }

/-- A prediction (R115, R116): the bin's old entry is removed first; a full queue evicts its last
entry for a smaller key and refuses a larger one. -/
def State.handPrediction (e : DueEntry) (s : State) : State :=
  let q := dropDue e.bin s.due
  if q.length < dueSize then s.placeDue e q
  else match q.getLast? with
    | none => s.placeDue e q
    | some last =>
        if e.before last then State.setUnqueued last.bin true s |>.placeDue e q.dropLast
        else State.setUnqueued e.bin true { s with due := q }

/-- A removal (R117). -/
def State.handRemoval (b : Nat) (s : State) : State :=
  State.setUnqueued b false { s with due := dropDue b s.due }

/-- A set silent or clear silent (R118): in place. -/
def State.handSilent (b : Nat) (f : Bool) (s : State) : State :=
  { s with due := s.due.map fun e => if e.bin = b then { e with silent := f } else e }

/-- A new district (R119): in place. -/
def State.handDistrict (b d : Nat) (s : State) : State :=
  { s with due := s.due.map fun e => if e.bin = b then { e with district := d } else e }

/-! ### Gates (R100) -/

/-- The gate state of a district. -/
def Gates.state (g : Gates) (d : Nat) : GateState := g.states.read .opened d

/-- Set the gate of a district. -/
def Gates.setState (x : GateState) (g : Gates) (d : Nat) : Gates :=
  { g with states := g.states.write .opened d x }

/-- Set the gates of a set of districts together. -/
def Gates.setStates (ds : List Nat) (x : GateState) (g : Gates) : Gates := ds.foldl (Gates.setState x) g

/-- The in-flight count of a district. -/
def Gates.count (g : Gates) (d : Nat) : Nat := g.inFlight.read 0 d

/-- Set the in-flight count of a district. -/
def Gates.setCount (d n : Nat) (g : Gates) : Gates := { g with inFlight := g.inFlight.write 0 d n }

/-- Has every district of a set an in-flight count of 0 (R104)? -/
def Gates.drained (g : Gates) (ds : List Nat) : Bool := ds.all fun d => g.count d == 0

/-- Is a bin in flight (chapter 5)? -/
def State.binInFlight (s : State) (b : Nat) : Bool := s.slots.any fun e => e.frame.bin == b

/-! ### Authority and protection (R163, R167) -/

/-- Every row. -/
def allRows : RowSet := BitVec.allOnes 17

/-- The sets of a credential; credential 0 holds every row at every moment (R163). -/
def State.authorityOf (s : State) (c : Nat) : Authority :=
  if c = 0 then { view := allRows, change := allRows } else s.management.authority.read .nothing c

/-- Is a row protected under the protection in force (R167)? -/
def Protection.covers (p : Protection) (row : Nat) : Bool :=
  match p with
  | .none => false
  | .districts set => decide (row < districtCount) && set.getLsbD row
  | .all => true

/-- The change wait limit in force, in milliseconds (R105). -/
def State.changeWaitMs (s : State) : Nat := s.inForce.settings.changeWait * 1000

/-- The due horizon in force, in seconds (R174). -/
def State.horizon (s : State) : Nat := s.inForce.settings.dueHorizon * 86400

/-! ### Starts (R178) -/

/-- The timebase at a restart (R173): SYNCED becomes FREE-RUN, the loss timer stops. -/
def Timebase.restarted (t : Timebase) : Timebase :=
  { t with state := if t.state = .synced then .freeRun else t.state, lossRunning := false }

/-- Every block takes its restart state (R17, R32, R55, R69, R74, R111, R129, R145, R158, R169,
R173), and a start with this cause is in step 1 (R178). -/
def State.restarted (cause : StartCause) (s : State) : State :=
  { s with
    phase := .starting cause
    time := s.time.restarted
    intake := .reset
    bins := { s.bins with sweepDue := none }
    slots := []
    gates := .reset
    watch := { s.watch with counters := .empty, notices := [] }
    composer := .reset
    management := { s.management with queue := [] } }

/-- Every block takes its power-on state (R178): nothing is kept but the stored record, besides the
level of the reset line and the commands that wait. -/
def State.poweredOn (s : State) : State :=
  { State.reset with
    pending := s.pending
    resetLine := s.resetLine
    store := s.store
    drawn := s.drawn }

end Sys2Proof.Machine
end

