-- ==== Sys2Proof/Machine/Arithmetic.lean ====
section
/-! DEFINITION. The fill arithmetic of chapter 5, as functions of the frame, the record, the
calibration entry and the profile: stages 1 to 6, learning, and what a completion writes and hands
over (R72). -/

namespace Sys2Proof.Machine

/-! ### Stage 1: speed-of-sound correction -/

/-- The temperature Stage 1 uses, and whether it was clamped (R77). -/
def chosenTemp (p : Profile) (raw : Int) : Int × Bool :=
  if raw = -32768 then (p.defaultTemp, false)
  else if raw < -400 then (-400, true)
  else if 700 < raw then (700, true)
  else (raw, false)

/-- The correction term q: 606 × T10 / 1000, to nearest, halves away from zero (R78). -/
def soundCorrection (t : Int) : Int :=
  if 0 ≤ t then (606 * t + 500) / 1000 else -((606 * -t + 500) / 1000)

/-- The speed of sound c10 in tenths of a metre per second (R78). -/
def soundSpeed (t : Int) : Nat := (3313 + soundCorrection t).toNat

/-- The corrected distance of a raw distance (R78). -/
def correctedDistance (c10 raw : Nat) : Nat := (raw * c10 + 1717) / 3434

/-- The corrected distances of the echoes that are present (R76, R78). -/
def correctedEchoes (c10 : Nat) (raw : List Nat) : List Nat :=
  (raw.filter fun d => d != 4095).map (correctedDistance c10)

/-! ### Stage 2: surface distance and validity -/

/-- A valid echo: its corrected distance and its surface distance. -/
structure Echo where
  corr : Nat
  surf : Int
deriving DecidableEq, Repr

/-- Stage 2 for one echo (R79). -/
def validEcho (p : Profile) (offset : Int) (corr : Nat) : Option Echo :=
  let s := (corr : Int) - offset
  if corr < 50 ∨ (p.depth : Int) + 100 < s then none
  else match p.kind with
    | .litter => some { corr := corr, surf := max s 0 }
    | .glass => if s < (p.mouth : Int) then none else some { corr := corr, surf := s }

/-- The valid echoes of a reading, in the frame's order. -/
def validEchoes (p : Profile) (offset : Int) (corrs : List Nat) : List Echo :=
  corrs.filterMap (validEcho p offset)

/-! ### Stage 3: echo selection -/

/-- The first echo that no other comes before. -/
def bestEcho (before : Echo → Echo → Bool) : List Echo → Option Echo
  | [] => none
  | e :: rest => some (rest.foldl (fun best x => if before x best then x else best) e)

/-- Litter selection (R80): the smallest surface distance. -/
def selectLitter (es : List Echo) : Option Echo := bestEcho (fun a b => decide (a.surf < b.surf)) es

/-- Is echo `a` nearer to a distance than `b`; of two equally near, is its surface distance smaller
(R81, R82)? -/
def nearer (target : Int) (a b : Echo) : Bool :=
  decide ((a.surf - target).natAbs < (b.surf - target).natAbs) ||
    (decide ((a.surf - target).natAbs = (b.surf - target).natAbs) && decide (a.surf < b.surf))

/-- Insert an echo after those of no greater surface distance. -/
def insertEcho (e : Echo) : List Echo → List Echo
  | [] => [e]
  | x :: rest => if e.surf < x.surf then e :: x :: rest else x :: insertEcho e rest

/-- The echoes by ascending surface distance. -/
def sortEchoes (es : List Echo) : List Echo := es.foldl (fun l e => insertEcho e l) []

/-- The lower median (R81): the echo numbered (n − 1) div 2 in ascending order. -/
def lowerMedian (es : List Echo) : Option Echo := (sortEchoes es)[(es.length - 1) / 2]?

/-- Glass selection (R81): tracking within the window of the held surface distance, else the lower
median. -/
def selectGlass (p : Profile) (held : Option Int) (es : List Echo) : Option Echo :=
  match held with
  | none => lowerMedian es
  | some h =>
      match bestEcho (nearer h) (es.filter fun e => decide ((e.surf - h).natAbs ≤ p.track)) with
      | some e => some e
      | none => lowerMedian es

/-- Selection in ACTIVE. -/
def selectActive (p : Profile) (held : Option Int) (es : List Echo) : Option Echo :=
  match p.kind with
  | .litter => selectLitter es
  | .glass => selectGlass p held es

/-- Selection in LEARNING (R82): the valid echo nearest the depth. -/
def selectLearning (p : Profile) (es : List Echo) : Option Echo := bestEcho (nearer p.depth) es

/-! ### Stage 4: mapping -/

/-- Interpolation in the breakpoint list (R84), for a distance between the mouth and the depth. -/
def interpolate : List (Nat × Nat) → Nat → Nat
  | [], _ => 0
  | (d0, f0) :: rest, s =>
      match rest with
      | [] => 0
      | (d1, f1) :: _ =>
          if s < d1 then f0 - ((f0 - f1) * (s - d0) + (d1 - d0) / 2) / (d1 - d0)
          else interpolate rest s

/-- The fill of a surface distance (R84). -/
def mapFill (p : Profile) (s : Int) : Nat :=
  if s ≤ (p.mouth : Int) then 1000
  else if (p.depth : Int) ≤ s then 0
  else interpolate p.points s.toNat

/-! ### What a completion makes of a record -/

/-- The due update a completion hands over (R91): nothing, a removal, or a prediction. -/
inductive DueUpdate where
  | nothing
  | removal
  | prediction (due : Nat) (isOver coarse : Bool)
deriving DecidableEq, Repr

/-- What a completion writes, hands over and reports: the record, the calibration entry, whether a
clear silent is handed over, the due update, the details of the outcome, and the classes and values
of its events in the order of R94. -/
structure Completion where
  record : Assigned
  learned : Option Int
  clearSilent : Bool
  due : DueUpdate
  details : List FlagDetail
  events : List (WatchClass × Int)
deriving DecidableEq, Repr

/-- An event in the list of a completion, where it arises. -/
def eventIf (b : Bool) (c : WatchClass) (v : Int) : List (WatchClass × Int) :=
  if b then [(c, v)] else []

/-- A detail, where it arises. -/
def detailIf (b : Bool) (d : FlagDetail) : List FlagDetail := if b then [d] else []

/-- The settings and state outside the record that the arithmetic reads (R72, R91). -/
structure Surroundings where
  freeRun : Bool
  horizon : Nat
deriving DecidableEq, Repr

/-! #### The fields every applied frame writes (R38) -/

/-- The record after the write of R38. -/
def applyCommon (p : Profile) (payload : List Byte) (arrival : Nat) (a : Assigned) : Assigned :=
  { a with
    lastCount := some (countOf payload)
    lastHeard := max a.lastHeard arrival
    battery := match batteryOf payload with
      | some v => some v
      | none => a.battery
    batteryLow := match batteryOf payload with
      | some v => batteryLowNext a.batteryLow p.batteryLimit v
      | none => a.batteryLow
    lid := decide (lidOf payload ≠ 0) }

/-- The events of R38: GAP, LID and LOW_BATTERY. -/
def commonEvents (payload : List Byte) (gap : Option Nat) (before after : Assigned) :
    List (WatchClass × Int) :=
  List.flatten
    [ match gap with
      | some g => [(.gap, (g : Int))]
      | none => [],
      eventIf (rose before.lid after.lid) .lid (lidOf payload : Int),
      eventIf (rose before.batteryLow after.batteryLow) .lowBattery
        (((batteryOf payload).getD 0 : Nat) : Int) ]

/-- The departure from SILENT (R39). -/
def leaveSilent (learned : Option Int) (a : Assigned) : Assigned :=
  if a.state = .silent then { a with samples := [] }.byCalibration learned else a

/-! #### Stage 6 (R89 to R91) -/

/-- The rate over an elapsed time (R89): truncated toward zero, held to 0..2,000. -/
def rateOver (rise : Int) (elapsed : Nat) : Nat :=
  min 2000 (Int.tdiv (rise * 86400) (16 * (elapsed : Int))).toNat

/-- The elapsed time of a reading since an anchor: 0 for an arrival before it (R89). -/
def Anchor.elapsed (k : Anchor) (arrival : Nat) : Nat := arrival - k.time

/-- The rate a reading computes, if the minimum rate span has passed (R89). -/
def newRate (p : Profile) (arrival : Nat) (a : Assigned) : Option Nat :=
  match a.anchor, a.f16 with
  | some k, some f =>
      if p.minSpan ≤ k.elapsed arrival then
        some (rateOver ((f : Int) - (k.f16 : Int)) (k.elapsed arrival))
      else none
  | _, _ => none

/-- The anchor after the rate step: moved after more than seven days (R89). -/
def movedAnchor (arrival : Nat) (a : Assigned) : Option Anchor :=
  match a.anchor, a.f16 with
  | some k, some f =>
      if 604800 < k.elapsed arrival then some { time := arrival, f16 := f } else some k
  | k, _ => k

/-- The record after the rate step and the threshold tests (R89, R90). -/
def stage6 (p : Profile) (arrival : Nat) (a : Assigned) : Assigned :=
  let fill := a.fillOrZero
  { a with
    rate := match newRate p arrival a with
      | some r => some r
      | none => a.rate
    anchor := movedAnchor arrival a
    dueCrossed := dueCrossedNext a.dueCrossed p.dueAt fill arrival
    fullCrossed := crossedNext a.fullCrossed p.fullAt fill
    fastFill := match newRate p arrival a with
      | some r => fastFillNext p.fastLimit r
      | none => a.fastFill }

/-- The events of the threshold tests: DUE, FULL and FAST_FILL (R90). -/
def stage6Events (p : Profile) (arrival : Nat) (before : Assigned) : List (WatchClass × Int) :=
  let after := stage6 p arrival before
  List.flatten
    [ eventIf (rose before.dueCrossed.isSome after.dueCrossed.isSome) .due (after.fillOrZero : Int),
      eventIf (rose before.fullCrossed after.fullCrossed) .full (after.fillOrZero : Int),
      eventIf (rose before.fastFill after.fastFill) .fastFill (((after.rate).getD 0 : Nat) : Int) ]

/-- The interval to the due threshold, shortened by a sixteenth under the FREE-RUN guard (R91). -/
def dueInterval (p : Profile) (env : Surroundings) (f16 rate : Nat) : Nat :=
  let interval := (p.dueAt * 16 - f16) * 86400 / (16 * rate)
  if env.freeRun then interval - interval / 16 else interval

/-- The due update of a bin after the threshold tests (R91). -/
def dueUpdate (p : Profile) (env : Surroundings) (arrival : Nat) (a : Assigned) : DueUpdate :=
  match a.dueCrossed, a.rate, a.f16 with
  | some t, _, _ => .prediction t true false
  | none, some r, some f =>
      if r = 0 then .removal
      else if env.horizon < dueInterval p env f r then .removal
      else .prediction (arrival + dueInterval p env f r) false env.freeRun
  | none, _, _ => .removal

/-! #### Stages 4 and 5 in ACTIVE (R84 to R88) -/

/-- The surface distance and heaped flag of a non-BLIND reading (R84, R85). -/
def stage4 (p : Profile) (s : Int) (a : Assigned) : Assigned :=
  { a with surface := some s, heaped := heapedNext p s }

/-- Is a sample a collection (R86)? -/
def isCollection (p : Profile) (fill : Nat) (a : Assigned) : Bool :=
  match a.f16 with
  | some f => decide (p.drop ≤ fillOf f) && decide (fill ≤ fillOf f - p.drop)
  | none => false

/-- A distance held to low..high. -/
def clampInt (low high v : Int) : Int := if v < low then low else if high < v then high else v

/-- The unclamped correction of the short calibration (R87). -/
def shortCorrection (p : Profile) (corr : Nat) (offset : Int) : Int :=
  (corr : Int) - (p.depth : Int) - offset

/-- The offset the short calibration gives (R87). -/
def shortOffset (p : Profile) (corr : Nat) (offset : Int) : Int :=
  clampInt (-120) 120 (offset + clampInt (-8) 8 (shortCorrection p corr offset))

/-- Did a clamp of the short calibration act (R87)? -/
def shortClamped (p : Profile) (corr : Nat) (offset : Int) : Bool :=
  decide (clampInt (-8) 8 (shortCorrection p corr offset) ≠ shortCorrection p corr offset) ||
    decide (shortOffset p corr offset ≠ offset + clampInt (-8) 8 (shortCorrection p corr offset))

/-- Is the short calibration made at a collection with this surface distance (R87)? -/
def seesFloor (p : Profile) (s : Int) : Bool := decide ((p.depth : Int) - 100 ≤ s)

/-- F16 after a sample that is not a collection (R88): set when absent, else moved by k eighths of
the difference, truncated toward zero. -/
def smoothed (p : Profile) (fill : Nat) (f16 : Option Nat) : Nat :=
  match f16 with
  | none => fill * 16
  | some f =>
      ((f : Int) + Int.tdiv ((((fill * 16 : Nat) : Int) - (f : Int)) * (p.weight : Int)) 8).toNat

/-- Stage 5 of a sample (R86 to R88). -/
def stage5 (p : Profile) (e : Echo) (fill arrival : Nat) (a : Assigned) : Assigned :=
  if isCollection p fill a then
    { a with
      f16 := some (fill * 16)
      anchor := some { time := arrival, f16 := fill * 16 }
      rate := none
      dueCrossed := none
      fullCrossed := false
      offset := if seesFloor p e.surf then shortOffset p e.corr a.offset else a.offset }
  else
    { a with
      f16 := some (smoothed p fill a.f16)
      anchor := match a.f16 with
        | none => some { time := arrival, f16 := smoothed p fill a.f16 }
        | some _ => a.anchor }

/-! #### The frame kinds -/

/-- A BLIND reading (R83): nothing of the fill state changes. -/
def blindReading (clamped : Bool) (a : Assigned) (learned : Option Int) : Completion :=
  { record := a, learned := learned, clearSilent := false, due := .nothing,
    details := .blind :: detailIf clamped .tempClamped,
    events := [(.blind, (a.fillOrZero : Int))] }

/-- A READING in ACTIVE with a selected echo (R84 to R91). -/
def activeReading (p : Profile) (env : Surroundings) (e : Echo) (clamped : Bool) (arrival : Nat)
    (a : Assigned) (learned : Option Int) : Completion :=
  let fill := mapFill p e.surf
  let collected := isCollection p fill a
  let calibrated := collected && seesFloor p e.surf
  let calLimit := calibrated && shortClamped p e.corr a.offset
  let mid := stage5 p e fill arrival (stage4 p e.surf a)
  let last := stage6 p arrival mid
  { record := last
    learned := if calibrated then some mid.offset else learned
    clearSilent := false
    due := dueUpdate p env arrival last
    details := List.flatten [detailIf clamped .tempClamped, detailIf mid.heaped .heaped,
      detailIf calLimit .calLimit]
    events := List.flatten
      [ eventIf (rose a.heaped mid.heaped) .heaped (mid.fillOrZero : Int),
        eventIf collected .collected (mid.fillOrZero : Int),
        eventIf calLimit .calLimit (shortCorrection p e.corr a.offset),
        stage6Events p arrival mid ] }

/-- Insert a distance after those that are no greater. -/
def insertNat (x : Nat) : List Nat → List Nat
  | [] => [x]
  | y :: rest => if x < y then x :: y :: rest else y :: insertNat x rest

/-- Distances in ascending order. -/
def sortNats (l : List Nat) : List Nat := l.foldl (fun acc x => insertNat x acc) []

/-- The second smallest of the learning samples, each counted separately (R92). -/
def secondSmallest (l : List Nat) : Nat := (sortNats l).getD 1 0

/-- The fourth learning sample: the long calibration and the reading's own fill (R41, R92). -/
def longCalibration (p : Profile) (env : Surroundings) (e : Echo) (clamped : Bool) (arrival : Nat)
    (a : Assigned) : Completion :=
  let raw : Int := (secondSmallest (a.samples ++ [e.corr]) : Int) - (p.depth : Int)
  let offset := clampInt (-120) 120 raw
  let calLimit := decide (offset ≠ raw)
  let s0 : Int := (e.corr : Int) - offset
  let s := if p.kind = .litter then max s0 0 else s0
  let fill := mapFill p s
  let mid := stage4 p s
    { a with
      state := .active
      samples := []
      offset := offset
      f16 := some (fill * 16)
      anchor := some { time := arrival, f16 := fill * 16 }
      rate := none }
  let last := stage6 p arrival mid
  { record := last
    learned := some offset
    clearSilent := false
    due := dueUpdate p env arrival last
    details := List.flatten [detailIf clamped .tempClamped, detailIf mid.heaped .heaped,
      detailIf calLimit .calLimit]
    events := List.flatten
      [ eventIf (rose a.heaped mid.heaped) .heaped (mid.fillOrZero : Int),
        eventIf calLimit .calLimit raw,
        stage6Events p arrival mid ] }

/-- A READING in LEARNING with a selected echo (R41): one of the first three samples is appended,
the fourth makes the long calibration. -/
def learningReading (p : Profile) (env : Surroundings) (e : Echo) (clamped : Bool) (arrival : Nat)
    (a : Assigned) (learned : Option Int) : Completion :=
  if a.samples.length < 3 then
    { record := { a with samples := a.samples ++ [e.corr] }, learned := learned,
      clearSilent := false, due := .nothing, details := detailIf clamped .tempClamped, events := [] }
  else longCalibration p env e clamped arrival a

/-- A READING, by the state the bin is in after R39. -/
def applyReading (p : Profile) (env : Surroundings) (payload : List Byte) (arrival : Nat)
    (a : Assigned) (learned : Option Int) : Completion :=
  let temp := chosenTemp p (tempOf payload)
  let corrs := correctedEchoes (soundSpeed temp.1) (echoesOf payload)
  match a.state with
  | .learning =>
      match selectLearning p (validEchoes p 0 corrs) with
      | none => blindReading temp.2 a learned
      | some e => learningReading p env e temp.2 arrival a learned
  | _ =>
      match selectActive p a.surface (validEchoes p a.offset corrs) with
      | none => blindReading temp.2 a learned
      | some e => activeReading p env e temp.2 arrival a learned

/-- A STATUS frame (R40). -/
def applyStatus (a : Assigned) (learned : Option Int) : Completion :=
  { record := a, learned := learned, clearSilent := false, due := .nothing, details := [],
    events := [] }

/-- An INSTALL frame (R42). -/
def applyInstall (a : Assigned) : Completion :=
  { record := { a.clearFill with state := .learning, samples := [], offset := 0 }, learned := none,
    clearSilent := false, due := .removal, details := [], events := [] }

/-- The effect of a frame's kind (R72), on the record as R38 and R39 leave it. -/
def applyKind (p : Profile) (env : Surroundings) (payload : List Byte) (arrival : Nat)
    (a : Assigned) (learned : Option Int) : Completion :=
  match kindOf payload with
  | some .reading => applyReading p env payload arrival a learned
  | some .install => applyInstall a
  | _ => applyStatus a learned

/-- A completion (R72): R38, then R39, then the effect of the kind. -/
def completion (p : Profile) (env : Surroundings) (payload : List Byte) (arrival : Nat)
    (gap : Option Nat) (a : Assigned) (learned : Option Int) : Completion :=
  let written := applyCommon p payload arrival a
  let own := applyKind p env payload arrival (leaveSilent learned written) learned
  { own with
    clearSilent := decide (a.state = .silent)
    events := commonEvents payload gap a written ++ own.events }

end Sys2Proof.Machine
end

