-- ==== Sys2Proof/Machine/Uplink.lean ====
section
/-! DEFINITION. The uplink path to the admission queue: the intake port (chapter 1), translation
(chapter 2), the gate test and the giving of admission places (R11, R15, R101). -/

namespace Sys2Proof.Machine

/-! ### Translation (R21) -/

/-- What translation finds for a sensor id. -/
inductive Translated where
  /-- A fault, its row and, for GENERATION alone, the bin (R23). -/
  | fault (code : OutcomeCode) (row : Nat) (bin : Option Nat)
  /-- A translated frame's bin and district. -/
  | found (bin district : Nat)
deriving DecidableEq, Repr

/-- Tests 5 and 6 of R21, on a valid device entry. -/
def State.translateMapping (s : State) (m : Mapping) : Translated :=
  match s.assigned m.bin with
  | none => .fault .binEmpty unplacedRow none
  | some a =>
      if m.generation ≠ 0 ∧ m.generation ≠ a.generation then
        .fault .generation a.district (some m.bin)
      else .found m.bin a.district

/-- The six tests of R21 in their order. -/
def State.translate (s : State) (id : SensorId) : Translated :=
  if prefixCount ≤ prefixOf id then .fault .prefixRange unplacedRow none
  else match s.translation.prefixes.get (prefixOf id) with
    | none => .fault .prefixInvalid unplacedRow none
    | some seg =>
        if seg.length ≤ indexOf id then .fault .deviceRange unplacedRow none
        else match s.translation.devices.get (seg.base + indexOf id) with
          | none => .fault .deviceInvalid unplacedRow none
          | some m => s.translateMapping m

/-! ### The gate test and release -/

/-- Put a frame at the end of the admission queue (R12). -/
def State.joinAdmission (f : Frame) (s : State) : State :=
  { s with intake := { s.intake with admission := s.intake.admission ++ [f] } }

/-- An event that a frame of a district raises with its outcome code as value. -/
def frameEvent (cls : WatchClass) (row : Nat) (bin : Option Nat) (payload : List Byte)
    (o : OutcomeCode) : Event :=
  { cls := cls, row := row, bin := bin, origin := originOf payload, value := (o.code : Int) }

/-- A frame ends, or is set aside, with an outcome: the tally and the event of R97. -/
def State.endFrame (cls : WatchClass) (row : Nat) (bin : Option Nat) (payload : List Byte)
    (o : OutcomeCode) (s : State) : State :=
  (s.tallyOutcome row o).raise (frameEvent cls row bin payload o)

/-- The gate test (R101). -/
def State.gateTest (f : Frame) (district : Nat) (s : State) : State :=
  if s.gates.state district = .opened then s.joinAdmission f
  else if s.gates.deferred.length < deferredSize then
    State.endFrame .deferred district (some f.bin) f.payload .nullified
      { s with gates := { s.gates with
                            deferred := s.gates.deferred ++ [{ frame := f, district := district }] } }
  else s.endFrame .overrun district (some f.bin) f.payload .deferFull

/-- The arrival time of a merge entry: its opened-at time in seconds (R11). -/
def MergeEntry.arrival (e : MergeEntry) : Nat := e.openedAt / 1000

/-- Does a merge entry have this key (R5)? -/
def MergeEntry.hasKey (sensor : SensorId) (count : FrameCount) (e : MergeEntry) : Bool :=
  e.sensor == sensor && e.count == count

/-- Hand a released entry's best copy to translation and the gates (R11, R23). -/
def State.handOn (e : MergeEntry) (s : State) : State :=
  match s.translate (sensorOf e.payload) with
  | .fault code row bin => s.endFrame .unmapped row bin e.payload code
  | .found bin district =>
      s.gateTest { payload := e.payload, bin := bin, arrival := e.arrival } district

/-- Replace the merge window. -/
def State.setWindow (w : List MergeEntry) (s : State) : State :=
  { s with intake := { s.intake with window := w } }

/-- Release an entry (R11): it leaves the window and is handed on. -/
def State.release (e : MergeEntry) (s : State) : State :=
  (s.setWindow (s.intake.window.filter fun x => !x.hasKey e.sensor e.count)).handOn e

/-! ### Admission places (R15) -/

/-- Has the admission queue a free place? -/
def State.placeFree (s : State) : Bool := decide (s.intake.admission.length < admissionSize)

/-- Is a deferred frame's gate OPEN? -/
def State.deferredOpen (s : State) (d : DeferredFrame) : Bool := s.gates.state d.district == .opened

/-- The earliest deferred frame of an OPEN district (R15, R102). -/
def State.openDeferred (s : State) : Option DeferredFrame := s.gates.deferred.find? s.deferredOpen

/-- Can the admission queue receive a released entry (R9, R10)? -/
def State.canReceive (s : State) : Bool := s.placeFree && s.openDeferred.isNone

/-- The held entry with the earliest expiry; of equal expiries the one opened first (R15). -/
def firstHeld : List MergeEntry → Option MergeEntry
  | [] => none
  | e :: rest =>
      match e.held, firstHeld rest with
      | false, other => other
      | true, none => some e
      | true, some other => if other.expiry < e.expiry then some other else some e

/-- Move the earliest deferred frame of an OPEN district to the admission queue (R102, R106). -/
def State.moveDeferred (d : DeferredFrame) (s : State) : State :=
  State.joinAdmission d.frame
    { s with gates := { s.gates with deferred := s.gates.deferred.eraseP s.deferredOpen } }

/-- One grant of a place (R15): a deferred frame of an OPEN district first, then a held entry; none
when no place is free or no candidate waits. -/
def State.grantPlace (s : State) : Option State :=
  if s.placeFree then
    match s.openDeferred with
    | some d => some (s.moveDeferred d)
    | none =>
        match firstHeld s.intake.window with
        | some e => some (s.release e)
        | none => none
  else none

/-- Grants made one after another, the test made again after each (R15). -/
def grantPlaces : Nat → State → State
  | 0, s => s
  | n + 1, s =>
      match s.grantPlace with
      | some t => grantPlaces n t
      | none => s

/-- No run of grants is longer: each takes a deferred frame out, or takes a merge entry out and puts
at most one deferred frame in. -/
def State.grantBound (s : State) : Nat := s.gates.deferred.length + 2 * s.intake.window.length

/-- Every free place is given (R15). -/
def State.givePlaces (s : State) : State := grantPlaces s.grantBound s

/-! ### The intake port -/

/-- The payload the port takes of an offered frame (R2). -/
def takenPayload (f : ChainFrame) : List Byte := f.bytes.take f.length.toNat

/-- The frame the port takes and its chain (R1): the first offering chain after the last chain taken,
counting upward and wrapping from 3 to 0. -/
def chooseChain (last : Nat) (offers : List (Option ChainFrame)) : Option (Nat × ChainFrame) :=
  ([1, 2, 3, 4].map fun i => (last + i) % 4).findSome? fun c =>
    match offers.getD c none with
    | some f => some (c, f)
    | none => none

/-- A FORMAT end (R3, R4): the MALFORMED event carries sensor id and frame count when the payload
holds at least 6 bytes. -/
def State.endFormat (payload : List Byte) (d : FormDetail) (s : State) : State :=
  (s.tallyOutcome unplacedRow .format).raise
    { cls := .malformed, row := unplacedRow, bin := none,
      origin := if 6 ≤ payload.length then originOf payload else none,
      value := codeValue OutcomeCode.format.code d.num }

/-- The merge window length in force (R6). -/
def State.windowLength (s : State) : Nat := s.inForce.settings.mergeWindow

/-- The entry a new key opens (R8). -/
def State.newEntry (quality : Nat) (payload : List Byte) (s : State) : MergeEntry :=
  { sensor := sensorOf payload, count := countOf payload, quality := quality, payload := payload,
    openedAt := s.time.localMs, expiry := s.time.localMs + s.windowLength, held := false }

/-- Merge a copy into an entry of its key (R7). -/
def MergeEntry.merge (quality : Nat) (payload : List Byte) (e : MergeEntry) : MergeEntry :=
  if e.quality < quality then { e with quality := quality, payload := payload } else e

/-- The window after a copy has merged into the entry of its key. -/
def mergeInto (quality : Nat) (payload : List Byte) (w : List MergeEntry) : List MergeEntry :=
  w.map fun e =>
    if e.hasKey (sensorOf payload) (countOf payload) then e.merge quality payload else e

/-- An entry expires (R10): it is released, or becomes held. -/
def State.expire (e : MergeEntry) (s : State) : State :=
  if s.canReceive then s.release e
  else s.setWindow (s.intake.window.map fun x =>
    if x.hasKey e.sensor e.count then { x with held := true } else x)

/-- A new key opens an entry at the end of the window (R8); with a window length of 0 it expires at
once. -/
def State.openEntry (quality : Nat) (payload : List Byte) (s : State) : State :=
  let e := s.newEntry quality payload
  let t := s.setWindow (s.intake.window ++ [e])
  if s.windowLength = 0 then t.expire e else t

/-- A new key that finds a full window (R9): the oldest entry is released early, or the new frame
ends INTAKE_FULL. -/
def State.openFull (quality : Nat) (payload : List Byte) (s : State) : State :=
  match s.intake.window with
  | [] => s.openEntry quality payload
  | oldest :: _ =>
      if s.canReceive then (s.release oldest).openEntry quality payload
      else s.endFrame .overrun unplacedRow none payload .intakeFull

/-- A well-formed frame reaches the merge window (R7 to R9). -/
def State.intoWindow (quality : Nat) (payload : List Byte) (s : State) : State :=
  if s.intake.window.any (MergeEntry.hasKey (sensorOf payload) (countOf payload)) then
    s.setWindow (mergeInto quality payload s.intake.window)
  else if s.intake.window.length < windowSize then s.openEntry quality payload
  else s.openFull quality payload

/-- The port takes a frame of a chain (R1 to R3). -/
def State.takeFrame (chain : Nat) (f : ChainFrame) (s : State) : State :=
  let t := { s with intake := { s.intake with lastChain := chain } }
  match formFault f.radio (takenPayload f) with
  | some d => t.endFormat (takenPayload f) d
  | none => t.intoWindow f.quality.toNat (takenPayload f)

/-- INTAKE_FRAME_TAKE. Nothing happens when no chain offers, or before the port takes frames (R16). -/
def execIntakeFrameTake (c0 c1 c2 c3 : Option ChainFrame) (s : State) :
    Host.Outcome State Fault Refusal :=
  .next <| s.whenRunning fun s =>
    match chooseChain s.intake.lastChain [c0, c1, c2, c3] with
    | some (chain, f) => s.takeFrame chain f
    | none => s

/-- MERGE_ENTRY_EXPIRY (R10), of the entry with this key, once local time has reached its expiry. A
held entry has expired already. -/
def execMergeEntryExpiry (sensor : SensorId) (count : FrameCount) (s : State) :
    Host.Outcome State Fault Refusal :=
  .next <| s.whenRunning fun s =>
    match s.intake.window.find? (MergeEntry.hasKey sensor count) with
    | some e => if e.expiry ≤ s.time.localMs ∧ e.held = false then s.expire e else s
    | none => s

/-- ADMISSION_PLACE_GRANT (R15). -/
def execAdmissionPlaceGrant (s : State) : Host.Outcome State Fault Refusal :=
  .next <| s.whenRunning State.givePlaces

end Sys2Proof.Machine
end

