-- ==== Sys2Proof/Machine/Estimator.lean ====
section
/-! DEFINITION. The estimate slots (R70 to R75), frame-count acceptance (R35 to R37) and the silence
sweep (R43, R44). -/

namespace Sys2Proof.Machine

/-! ### Estimate start -/

/-- How the bin record table judges a frame at estimate start (R36). -/
inductive Verdict where
  | accepted (gap : Option Nat)
  | duplicate
  | stale
deriving DecidableEq, Repr

/-- Frame-count acceptance (R36): INSTALL always, no last count always, else by the forward
distance. -/
def judge (kind : Option FrameKind) (last : Option FrameCount) (count : FrameCount) : Verdict :=
  if kind = some .install then .accepted none
  else match last with
    | none => .accepted none
    | some l =>
        let distance := (count - l).toNat
        if distance = 0 then .duplicate
        else if 32768 ≤ distance then .stale
        else .accepted (if 1 < distance then some (distance - 1) else none)

/-- Has a frame's bin no estimate in flight (R13)? -/
def State.eligible (s : State) (f : Frame) : Bool := !s.binInFlight f.bin

/-- The oldest frame an estimate can take (R13). -/
def State.nextFrame (s : State) : Option Frame :=
  if s.slots.length < slotCount then s.intake.admission.find? s.eligible else none

/-- Take the oldest eligible frame out of the admission queue; the frames behind it close up. -/
def State.takeAdmitted (s : State) : State :=
  { s with intake := { s.intake with admission := s.intake.admission.eraseP s.eligible } }

/-- An accepted frame keeps its slot, and its district's in-flight count rises (R71). -/
def State.occupy (f : Frame) (district : Nat) (gap : Option Nat) (s : State) : State :=
  { s with
    slots := s.slots ++ [{ frame := f, district := district, gap := gap }]
    gates := s.gates.setCount district (s.gates.count district + 1) }

/-- The tests of R35 on a frame taken from the admission queue. -/
def State.startFrame (f : Frame) (s : State) : State :=
  match s.assigned f.bin with
  | none => s.endFrame .unmapped unplacedRow none f.payload .binEmpty
  | some a =>
      match judge (kindOf f.payload) a.lastCount (countOf f.payload) with
      | .accepted gap => s.occupy f a.district gap
      | .duplicate => s.endFrame .repeated a.district (some f.bin) f.payload .duplicate
      | .stale => s.endFrame .repeated a.district (some f.bin) f.payload .stale

/-- ESTIMATE_START (R71): one slot takes the oldest frame that is eligible. -/
def execEstimateStart (s : State) : Host.Outcome State Fault Refusal :=
  .next <| s.whenRunning fun s =>
    match s.nextFrame with
    | some f => s.takeAdmitted.startFrame f
    | none => s

/-! ### Estimate completion -/

/-- The events of a completion as one group, each in the row of the estimate's district and carrying
the bin and the frame's origin (R94). -/
def completionEvents (e : Estimate) (c : Completion) : List Event :=
  c.events.map fun x =>
    { cls := x.1, row := e.district, bin := some e.frame.bin, origin := originOf e.frame.payload,
      value := x.2 }

/-- Hand over the due update of a completion (R75, R91). -/
def State.handDue (bin district : Nat) (u : DueUpdate) (s : State) : State :=
  match u with
  | .nothing => s
  | .removal => s.handRemoval bin
  | .prediction due isOver coarse =>
      s.handPrediction { bin := bin, district := district, due := due, isOver := isOver,
                         silent := false, coarse := coarse }

/-- The slot becomes free and its district's in-flight count falls (R72). -/
def State.vacate (e : Estimate) (s : State) : State :=
  { s with
    slots := s.slots.filter fun x => x.frame.bin != e.frame.bin
    gates := s.gates.setCount e.district (s.gates.count e.district - 1) }

/-- What the arithmetic reads outside the record, at completion (R72). -/
def State.surroundings (s : State) : Surroundings :=
  { freeRun := decide (s.time.state = .freeRun), horizon := s.horizon }

/-- Write and hand over a completion (R72, R75): the record and calibration entry, the clear silent
before the due update, the outcome, and the group of events. -/
def State.applyCompletion (e : Estimate) (c : Completion) (s : State) : State :=
  s.setAssigned e.frame.bin (some c.record)
    |>.setLearned e.frame.bin c.learned
    |> (fun t => if c.clearSilent then t.handSilent e.frame.bin false else t)
    |>.handDue e.frame.bin e.district c.due
    |>.tallyCompletion e.district c.details
    |>.raiseGroup (completionEvents e c)
    |>.vacate e

/-- The completion of an estimate whose bin is assigned as `a`. What it reads has not changed since
its start (R72). -/
def State.completionOf (s : State) (e : Estimate) (a : Assigned) : Completion :=
  completion (s.profileOf a.profile) s.surroundings e.frame.payload e.frame.arrival e.gap a
    (s.learned e.frame.bin)

/-- Complete an estimate (R72). A bin in flight is never EMPTY; where no record is assigned the slot
alone is freed. -/
def State.complete (e : Estimate) (s : State) : State :=
  match s.assigned e.frame.bin with
  | some a => s.applyCompletion e (s.completionOf e a)
  | none => s.vacate e

/-- ESTIMATE_COMPLETION (R72) of the estimate in flight for this bin, if there is one. -/
def execEstimateCompletion (bin : Nat) (s : State) : Host.Outcome State Fault Refusal :=
  .next <| s.whenRunning fun s =>
    match s.slots.find? fun e => e.frame.bin == bin with
    | some e => s.complete e
    | none => s

/-! ### The silence sweep -/

/-- Is a bin silent at a sweep (R44): LEARNING or ACTIVE, not in flight, unheard for longer than its
profile's silence limit? -/
def State.foundSilent (s : State) (bin : Nat) (a : Assigned) : Bool :=
  decide (a.state ≠ .silent) && !s.binInFlight bin &&
    decide ((s.profileOf a.profile).silenceLimit < s.time.seconds - a.lastHeard)

/-- Make a bin SILENT (R44): the set silent from ACTIVE, the samples discarded from LEARNING, and
one SILENT event. -/
def State.makeSilent (bin : Nat) (a : Assigned) (s : State) : State :=
  s.setAssigned bin (some { a with state := .silent, samples := [] })
    |> (fun t => if a.state = .active then t.handSilent bin true else t)
    |>.raise { cls := .silent, row := a.district, bin := some bin, origin := none,
               value := (a.fillOrZero : Int) }

/-- Examine one bin in a sweep. -/
def State.sweepBin (s : State) (bin : Nat) : State :=
  match s.assigned bin with
  | some a => if s.foundSilent bin a then s.makeSilent bin a else s
  | none => s

/-- The bins a sweep comes to, in ascending order: every record that is not vacant. -/
def State.sweptBins (s : State) : List Nat := s.bins.records.entries.map (·.1)

/-- A sweep, taken whole (R43, R44). -/
def State.sweep (s : State) : State := s.sweptBins.foldl State.sweepBin s

/-- SILENCE_SWEEP (R43, R44), once the sweep timer has expired. -/
def execSilenceSweep (s : State) : Host.Outcome State Fault Refusal :=
  .next <| s.whenRunning fun s =>
    match s.bins.sweepDue with
    | some due =>
        if due ≤ s.time.localMs then
          let t := s.sweep
          { t with bins := { t.bins with
                               sweepDue := some (nextExpiry due s.inForce.settings.sweepInterval) } }
        else s
    | none => s

end Sys2Proof.Machine
end

