-- ==== Sys2Proof/Machine/Management.lean ====
section
/-! DEFINITION. The management interpreter (chapter 10): the queue and its head, the order of checks,
responses, and the gating of a change (R103 to R106). What each request asks and does stands in
Machine/Changes.lean, Machine/Reads.lean and Machine/Settings.lean. -/

namespace Sys2Proof.Machine

/-! ### Responses (R151, R168) -/

/-- Hand a response to the report composer. -/
def State.respond (r : Request) (result : Result) (frames : List Contents) (s : State) : State :=
  { s with composer := { s.composer with
      responses := s.composer.responses ++
        [{ tag := r.tag, op := r.op, result := result, frames := frames }] } }

/-- Answer the head: its response is handed on, and it leaves the queue (R160). -/
def State.answer (r : Request) (result : Result) (frames : List Contents) (s : State) : State :=
  State.respond r result frames
    { s with management := { s.management with queue := s.management.queue.tail } }

/-- Answer the head with its result code alone (R161, R168). -/
def State.refuse (r : Request) (result : Result) (s : State) : State := s.answer r result [.nothing]

/-- Answer the head with OK and one frame's contents. -/
def State.grantOk (r : Request) (c : Contents) (s : State) : State := s.answer r .ok [c]

/-! ### Arrival (R159, R160) -/

/-- Is a request the head, its response not yet handed on? Only a change that waits for its
districts stays the head between steps (R161). -/
def State.headWaits (s : State) : Bool := s.gates.change.isSome

/-- Is the response list full for a BUSY refusal (R151)? One place is kept for the head's response. -/
def State.listFull (s : State) : Bool :=
  decide (responseSize ≤ s.composer.responses.length + if s.headWaits then 1 else 0)

/-- A request arrives (R160): it joins the queue, is refused BUSY, or is dropped UNANSWERED. -/
def State.arrive (r : Request) (s : State) : State :=
  if s.management.queue.length < queueSize then
    { s with management := { s.management with queue := s.management.queue ++ [r] } }
  else if s.listFull then s.raiseLinkFault .unanswered
  else s.respond r .busy [.nothing]

/-- MANAGEMENT_FRAME (R159, R160): a body shorter than the request header is discarded with a
MALFORMED event. -/
def execManagementFrame (body : List Byte) (s : State) : Host.Outcome State Fault Refusal :=
  .next <| s.whenRunning fun s =>
    match requestOf body with
    | some r => s.arrive r
    | none => s.raiseLinkFault .length

/-! ### The head and its checks (R161, R162) -/

/-- The request that becomes the head and is checked: none while a change waits, or while the
response list holds the responses of 12 requests (R151, R161). -/
def State.head (s : State) : Option Request :=
  if s.isRunning && s.gates.change.isNone && decide (s.composer.responses.length < headRoom) then
    s.management.queue.head?
  else none

/-- The result of the first check that fails. -/
def firstFailure : List (Bool × Result) → Option Result
  | [] => none
  | (passed, result) :: rest => if passed then firstFailure rest else some result

/-- Check 1 beyond the operation: the argument length (R162). -/
def formatCheck (r : Request) (op : Operation) : Bool × Result := (r.lengthFits op, .badArgument)

/-- Check 2: the credential is in use (R163). -/
def State.credentialCheck (s : State) (r : Request) : Bool × Result :=
  (decide (r.credential < s.inForce.settings.credentials), .authRange)

/-- Check 3 for a read: every row concerned is in the VIEW set (R164). -/
def State.viewCheck (s : State) (r : Request) (rows : List Nat) : Bool × Result :=
  (rows.all (s.authorityOf r.credential).view.getLsbD, .authDenied)

/-- Check 3 for a change: every row concerned is in the CHANGE set (R164). -/
def State.changeCheck (s : State) (r : Request) (rows : List Nat) : Bool × Result :=
  (rows.all (s.authorityOf r.credential).change.getLsbD, .authDenied)

/-- Check 3 of LOAD AUTHORITY, STORE CONFIG and RESTART: credential 0 (R164). -/
def ownerCheck (r : Request) : Bool × Result := (decide (r.credential = 0), .authDenied)

/-- Check 4: no row concerned is protected (R167). -/
def State.protectionCheck (s : State) (rows : List Nat) : Bool × Result :=
  (rows.all fun row => !s.inForce.protection.covers row, .rowProtected)

/-- Check 5: the arguments. -/
def argumentCheck (b : Bool) : Bool × Result := (b, .badArgument)

/-- The checks of a read, in order. -/
def State.readChecks (s : State) (r : Request) (op : Operation) (rows : List Nat) (args : Bool) :
    Option Result :=
  firstFailure [formatCheck r op, s.credentialCheck r, s.viewCheck r rows, argumentCheck args]

/-- The checks of a change, in order; `more` are those of check 5 after BAD_ARGUMENT. -/
def State.changeChecks (s : State) (r : Request) (op : Operation) (rows : List Nat) (args : Bool)
    (more : List (Bool × Result)) : Option Result :=
  firstFailure (formatCheck r op :: s.credentialCheck r :: s.changeCheck r rows ::
    s.protectionCheck rows :: argumentCheck args :: more)

/-- The checks of a request that credential 0 alone may make and that is never protected. -/
def State.ownerChecks (s : State) (r : Request) (op : Operation) (args : Bool) : Option Result :=
  firstFailure [formatCheck r op, s.credentialCheck r, ownerCheck r, argumentCheck args]

/-- Take the head when it is a request of the named kind: a failing check answers it, otherwise it is
carried out (R161, R162). -/
def State.serve (mine : Request → Bool) (check : State → Request → Option Result)
    (carry : Request → State → State) (s : State) : State :=
  match s.head with
  | none => s
  | some r =>
      if mine r then
        match check s r with
        | some result => s.refuse r result
        | none => carry r s
      else s

/-- Is a request of this operation? -/
def isOp (op : Operation) (r : Request) : Bool := r.operation == some op

/-! ### Gating a change (R103 to R106) -/

/-- A change to the tables and what its response carries. -/
abbrev Applied := State × Contents

/-- Set the gates of a change (R103): every district of the set becomes CHANGING together, and the
pending change is recorded. -/
def State.setGates (districts : List Nat) (s : State) : State :=
  { s with gates := { s.gates.setStates districts .changing with
                        change := some { districts := districts, since := s.time.localMs } } }

/-- The gates of the pending change reopen, and it is cleared (R104, R105). -/
def State.reopen (c : PendingChange) (s : State) : State :=
  { s with gates := { s.gates.setStates c.districts .opened with change := none } }

/-- Apply a pending change (R104): the tables and hand-overs, the gates, the response; then the free
places are given (R106). -/
def State.applyPending (apply : Request → State → Applied) (c : PendingChange) (r : Request)
    (s : State) : State :=
  let done := apply r s
  (State.grantOk r done.2 (done.1.reopen c)).givePlaces

/-- Carry out a change that has passed its checks (R103): with an empty gate set it is applied and
answered at once; otherwise its gates are set, and it is applied at once where every gated district
has an in-flight count of 0. -/
def State.carryChange (apply : Request → State → Applied) (districts : List Nat) (r : Request)
    (s : State) : State :=
  if districts = [] then State.grantOk r (apply r s).2 (apply r s).1
  else if s.gates.drained districts then
    (s.setGates districts).applyPending apply
      { districts := districts, since := s.time.localMs } r
  else s.setGates districts

/-- Has the change wait limit passed since the gates were set (R105)? -/
def State.changeExpired (s : State) (c : PendingChange) : Bool :=
  decide (c.since + s.changeWaitMs ≤ s.time.localMs)

/-- CHANGE_TIMEOUT (R105): nothing of the change is applied, the gates reopen, the response is
TIMEOUT, and the free places are given (R106). A change whose districts have drained is applied, and
the expiry does nothing to it (R107). -/
def execChangeTimeout (s : State) : Host.Outcome State Fault Refusal :=
  .next <| s.whenRunning fun s =>
    match s.gates.change, s.management.queue with
    | some c, r :: _ =>
        if s.changeExpired c && !s.gates.drained c.districts then
          (State.refuse r .timeout (s.reopen c)).givePlaces
        else s
    | _, _ => s

/-- UNKNOWN_OP (R162): the head's operation is not a known one. -/
def execUnknownOp (s : State) : Host.Outcome State Fault Refusal :=
  .next <| s.serve (fun r => r.operation.isNone) (fun _ _ => some .unknownOp) (fun _ s => s)

end Sys2Proof.Machine
end

