-- ==== Sys2Proof/Machine/Changes.lean ====
section
/-! DEFINITION. The changes that gate districts: their rows concerned, argument checks, gate sets and
effects (chapters 2, 3 and 4), and CHANGE_APPLICATION (R104). -/

namespace Sys2Proof.Machine

/-- Every district (LOAD PREFIX, CLEAR PREFIX, LOAD PROFILE). -/
def allDistricts : List Nat := List.range districtCount

/-! ### LOAD PREFIX and CLEAR PREFIX (R26, R27) -/

/-- Set a prefix-table entry. -/
def State.setPrefix (p : Nat) (seg : Option Segment) (s : State) : State :=
  { s with translation := { s.translation with prefixes := s.translation.prefixes.set p seg } }

/-- The argument check of LOAD PREFIX (R26). -/
def prefixFits (r : Request) : Bool :=
  decide (r.arg8 0 < prefixCount) && decide (r.arg16 1 < binCount) && decide (1 ≤ r.arg16 3) &&
    decide (r.arg16 3 ≤ binCount) && decide (r.arg16 1 + r.arg16 3 ≤ binCount)

/-- The checks of LOAD PREFIX. -/
def checkLoadPrefix (s : State) (r : Request) : Option Result :=
  s.changeChecks r .loadPrefix [unplacedRow] (prefixFits r) []

/-- LOAD PREFIX applied. -/
def applyLoadPrefix (r : Request) (s : State) : Applied :=
  (s.setPrefix (r.arg8 0) (some { base := r.arg16 1, length := r.arg16 3 }),
    .prefixWas (s.translation.prefixes.get (r.arg8 0)))

/-- LOAD_PREFIX (R26). -/
def execLoadPrefix (s : State) : Host.Outcome State Fault Refusal :=
  .next <| s.serve (isOp .loadPrefix) checkLoadPrefix fun r s =>
    s.carryChange applyLoadPrefix allDistricts r

/-- The checks of CLEAR PREFIX. -/
def checkClearPrefix (s : State) (r : Request) : Option Result :=
  s.changeChecks r .clearPrefix [unplacedRow] (decide (r.arg8 0 < prefixCount)) []

/-- CLEAR PREFIX applied. -/
def applyClearPrefix (r : Request) (s : State) : Applied :=
  (s.setPrefix (r.arg8 0) none, .prefixWas (s.translation.prefixes.get (r.arg8 0)))

/-- CLEAR_PREFIX (R27). -/
def execClearPrefix (s : State) : Host.Outcome State Fault Refusal :=
  .next <| s.serve (isOp .clearPrefix) checkClearPrefix fun r s =>
    s.carryChange applyClearPrefix allDistricts r

/-! ### LOAD DEVICE and CLEAR DEVICE (R28, R29) -/

/-- Set a device-table entry. -/
def State.setDevice (e : Nat) (m : Option Mapping) (s : State) : State :=
  { s with translation := { s.translation with devices := s.translation.devices.set e m } }

/-- The valid device-table entry under a number. -/
def State.device (s : State) (e : Nat) : Option Mapping := s.translation.devices.get e

/-- The bin a valid entry names, when it is another bin than this one. -/
def State.otherBin (s : State) (e b : Nat) : Option Nat :=
  match s.device e with
  | some m => if m.bin = b then none else some m.bin
  | none => none

/-- The rows concerned of LOAD DEVICE (R28). -/
def State.loadDeviceRows (s : State) (e b : Nat) : List Nat :=
  List.flatten
    [ [s.rowOfBin b],
      if e < binCount then
        match s.otherBin e b with
        | some old => [s.rowOfBin old]
        | none => []
      else [unplacedRow] ]

/-- Does a valid entry other than this one name the bin (R28)? -/
def State.namedElsewhere (s : State) (e b : Nat) : Bool :=
  s.translation.devices.entries.any fun x => x.1 != e && x.2.bin == b

/-- The argument check of LOAD DEVICE (R28); a generation byte is always in range. -/
def deviceFits (r : Request) : Bool :=
  decide (r.arg16 0 < binCount) && decide (r.arg16 2 < binCount)

/-- The checks of LOAD DEVICE: BAD_ARGUMENT before CONFLICT. -/
def checkLoadDevice (s : State) (r : Request) : Option Result :=
  s.changeChecks r .loadDevice (s.loadDeviceRows (r.arg16 0) (r.arg16 2)) (deviceFits r)
    [(!s.namedElsewhere (r.arg16 0) (r.arg16 2), .conflict)]

/-- The union of two sets of districts, each listed without repeats. -/
def unionOf (a b : List Nat) : List Nat := a ++ b.filter fun d => !a.contains d

/-- The gate set of LOAD DEVICE: the districts of the entry's old bin and of the new bin. -/
def State.loadDeviceGates (s : State) (e b : Nat) : List Nat :=
  unionOf
    (match s.device e with
      | some m => s.districtsOfBin m.bin
      | none => [])
    (s.districtsOfBin b)

/-- LOAD DEVICE applied. -/
def applyLoadDevice (r : Request) (s : State) : Applied :=
  let e := r.arg16 0
  let b := r.arg16 2
  let unlinked := match s.otherBin e b with
    | some old => s.setMapped old none
    | none => s
  (State.setMapped b (some e) (unlinked.setDevice e (some { bin := b, generation := r.arg8 4 })),
    .deviceWas (s.device e))

/-- LOAD_DEVICE (R28). -/
def execLoadDevice (s : State) : Host.Outcome State Fault Refusal :=
  .next <| s.serve (isOp .loadDevice) checkLoadDevice fun r s =>
    s.carryChange applyLoadDevice (s.loadDeviceGates (r.arg16 0) (r.arg16 2)) r

/-- The row concerned of CLEAR DEVICE and READ DEVICE BY ENTRY (R29, R31). -/
def State.rowOfEntry (s : State) (e : Nat) : Nat :=
  if e < binCount then
    match s.device e with
    | some m => s.rowOfBin m.bin
    | none => unplacedRow
  else unplacedRow

/-- The checks of CLEAR DEVICE. -/
def checkClearDevice (s : State) (r : Request) : Option Result :=
  s.changeChecks r .clearDevice [s.rowOfEntry (r.arg16 0)] (decide (r.arg16 0 < binCount)) []

/-- The gate set of CLEAR DEVICE. -/
def State.clearDeviceGates (s : State) (e : Nat) : List Nat :=
  match s.device e with
  | some m => s.districtsOfBin m.bin
  | none => []

/-- CLEAR DEVICE applied. -/
def applyClearDevice (r : Request) (s : State) : Applied :=
  let e := r.arg16 0
  let unlinked := match s.device e with
    | some m => s.setMapped m.bin none
    | none => s
  (unlinked.setDevice e none, .deviceWas (s.device e))

/-- CLEAR_DEVICE (R29). -/
def execClearDevice (s : State) : Host.Outcome State Fault Refusal :=
  .next <| s.serve (isOp .clearDevice) checkClearDevice fun r s =>
    s.carryChange applyClearDevice (s.clearDeviceGates (r.arg16 0)) r

/-! ### LOAD BIN (R46 to R49) -/

/-- A number taken as row 16 where it is no district. -/
def districtRow (d : Nat) : Nat := if d < districtCount then d else unplacedRow

/-- The rows concerned of LOAD BIN (R46): the new district and, where it differs, the bin's present
district; a number out of range is taken as row 16. -/
def State.loadBinRows (s : State) (b d : Nat) : List Nat :=
  List.flatten
    [ [districtRow d],
      if b < binCount then
        match s.assigned b with
        | some a => if a.district = d then [] else [a.district]
        | none => []
      else [unplacedRow] ]

/-- The argument check of LOAD BIN (R46); a generation byte is always in range. -/
def binFits (r : Request) : Bool :=
  decide (r.arg16 0 < binCount) && decide (r.arg8 2 < districtCount) &&
    decide (r.arg8 3 < profileCount)

/-- The checks of LOAD BIN: BAD_ARGUMENT before NOT_LOADED. -/
def checkLoadBin (s : State) (r : Request) : Option Result :=
  s.changeChecks r .loadBin (s.loadBinRows (r.arg16 0) (r.arg8 2)) (binFits r)
    [((s.profiles.get (r.arg8 3)).isSome, .notLoaded)]

/-- The gate set of LOAD BIN. -/
def State.loadBinGates (s : State) (b d : Nat) : List Nat := unionOf (s.districtsOfBin b) [d]

/-- The record of a bin loaded while EMPTY, before its state is chosen (R47). -/
def freshAssignment (district profile generation now : Nat) : Assigned where
  state := .learning
  district := district
  profile := profile
  generation := generation
  offset := 0
  lastCount := none
  lastHeard := now
  samples := []
  f16 := none
  surface := none
  anchor := none
  rate := none
  dueCrossed := none
  fullCrossed := false
  heaped := false
  fastFill := false
  lid := false
  battery := none
  batteryLow := false

/-- The reset of an assigned bin to a fresh assignment (R48, R65): the dynamic fill state and the
samples go, last heard is renewed, and the calibration entry decides the state. -/
def Assigned.reassigned (a : Assigned) (learned : Option Int) (now : Nat) : Assigned :=
  { a.clearFill with samples := [], lastHeard := now }.byCalibration learned

/-- Does a LOAD BIN reset the bin it names (R48)? -/
def resetsBin (a : Assigned) (profile : Nat) (relearn : Bool) : Bool :=
  relearn || a.profile != profile

/-- LOAD BIN on an EMPTY bin (R47). -/
def State.loadEmpty (b district profile generation : Nat) (relearn : Bool) (s : State) : State :=
  let t := if relearn then s.setLearned b none else s
  t.setRecord b
    { mapped := (s.record b).mapped
      unqueued := false
      assigned := some ((freshAssignment district profile generation s.time.seconds).byCalibration
        (t.learned b)) }

/-- LOAD BIN that resets an assigned bin (R48). -/
def State.loadReset (b district profile generation : Nat) (relearn : Bool) (a : Assigned)
    (s : State) : State :=
  let t := if relearn then s.setLearned b none else s
  (t.setAssigned b (some
    ({ a with district := district, profile := profile, generation := generation }.reassigned
      (t.learned b) s.time.seconds))).handRemoval b

/-- LOAD BIN that keeps the bin's state (R48). -/
def State.loadKeep (b district generation : Nat) (a : Assigned) (s : State) : State :=
  let t := s.setAssigned b (some { a with district := district, generation := generation })
  if a.district = district then t else t.handDistrict b district

/-- LOAD BIN applied (R47 to R49). -/
def applyLoadBin (r : Request) (s : State) : Applied :=
  let b := r.arg16 0
  let relearn := r.option 5
  match s.assigned b with
  | none =>
      let t := s.loadEmpty b (r.arg8 2) (r.arg8 3) (r.arg8 4) relearn
      (t, .binLoaded .empty none none none (t.record b).state false)
  | some a =>
      let t := if resetsBin a (r.arg8 3) relearn then
          s.loadReset b (r.arg8 2) (r.arg8 3) (r.arg8 4) relearn a
        else s.loadKeep b (r.arg8 2) (r.arg8 4) a
      (t, .binLoaded a.state.binState (some a.district) (some a.profile) (some a.generation)
        (t.record b).state (resetsBin a (r.arg8 3) relearn && (s.dueEntry b).isSome))

/-- LOAD_BIN (R46). -/
def execLoadBin (s : State) : Host.Outcome State Fault Refusal :=
  .next <| s.serve (isOp .loadBin) checkLoadBin fun r s =>
    s.carryChange applyLoadBin (s.loadBinGates (r.arg16 0) (r.arg8 2)) r

/-! ### RETIRE BIN and CLEAR DISTRICT (R50 to R52) -/

/-- Retire a bin (R50): its device entry, its due entry, its record and, with the option, its
calibration entry. -/
def State.retire (b : Nat) (withCalibration : Bool) (s : State) : State :=
  let unmapped := match (s.record b).mapped with
    | some e => s.setDevice e none
    | none => s
  let cleared := if withCalibration then unmapped.setLearned b none else unmapped
  State.setRecord b .vacant { cleared with due := dropDue b cleared.due }

/-- The checks of RETIRE BIN. -/
def checkRetireBin (s : State) (r : Request) : Option Result :=
  s.changeChecks r .retireBin [s.rowOfBin (r.arg16 0)] (decide (r.arg16 0 < binCount)) []

/-- RETIRE BIN applied. -/
def applyRetireBin (r : Request) (s : State) : Applied :=
  let b := r.arg16 0
  (s.retire b (r.option 2),
    .binRetired (s.record b).state ((s.assigned b).map (·.district))
      ((s.assigned b).map (·.generation)) (s.record b).mapped (r.option 2))

/-- RETIRE_BIN (R50). -/
def execRetireBin (s : State) : Host.Outcome State Fault Refusal :=
  .next <| s.serve (isOp .retireBin) checkRetireBin fun r s =>
    s.carryChange applyRetireBin (s.districtsOfBin (r.arg16 0)) r

/-- The bins whose records hold a district, in ascending order. -/
def State.binsOf (s : State) (d : Nat) : List Nat :=
  (s.bins.records.entries.filter fun x =>
    match x.2.assigned with
    | some a => a.district == d
    | none => false).map (·.1)

/-- The checks of CLEAR DISTRICT. -/
def checkClearDistrict (s : State) (r : Request) : Option Result :=
  s.changeChecks r .clearDistrict [districtRow (r.arg8 0)] (decide (r.arg8 0 < districtCount)) []

/-- CLEAR DISTRICT applied: every bin of the district is retired. -/
def applyClearDistrict (r : Request) (s : State) : Applied :=
  let bins := s.binsOf (r.arg8 0)
  (bins.foldl (fun t b => t.retire b (r.option 1)) s,
    .districtCleared bins.length (bins.filter fun b => (s.record b).mapped.isSome).length)

/-- CLEAR_DISTRICT (R51). -/
def execClearDistrict (s : State) : Host.Outcome State Fault Refusal :=
  .next <| s.serve (isOp .clearDistrict) checkClearDistrict fun r s =>
    s.carryChange applyClearDistrict [r.arg8 0] r

/-! ### LOAD PROFILE (R58, R59, R63 to R66) -/

/-- Do the distances strictly increase and the fills not increase along a list (R58)? -/
def pointsDescend : List (Nat × Nat) → Bool
  | [] => true
  | (d0, f0) :: rest =>
      (match rest with
        | [] => true
        | (d1, f1) :: _ => decide (d0 < d1) && decide (f1 ≤ f0)) && pointsDescend rest

/-- Is a breakpoint list well-formed for a mouth and a depth (R58)? -/
def pointsWellFormed (mouth depth : Nat) (pts : List (Nat × Nat)) : Bool :=
  decide (pts.head? = some (mouth, 1000)) && decide (pts.getLast? = some (depth, 0)) &&
    pointsDescend pts && pts.all fun q => decide (q.2 ≤ 1000)

/-- Do a profile's fields lie in the ranges of R56 and R63? -/
def Profile.inRange (p : Profile) : Bool :=
  [ decide (300 ≤ p.depth ∧ p.depth ≤ 3000),
    decide (50 ≤ p.mouth ∧ p.mouth + 100 ≤ p.depth),
    decide (2 ≤ p.points.length ∧ p.points.length ≤ 9),
    pointsWellFormed p.mouth p.depth p.points,
    decide (1 ≤ p.weight ∧ p.weight ≤ 8),
    decide (100 ≤ p.dueAt ∧ p.dueAt ≤ 1000),
    decide (p.dueAt ≤ p.fullAt ∧ p.fullAt ≤ 1000),
    decide (100 ≤ p.drop ∧ p.drop ≤ 900),
    decide (p.fastLimit ≤ 2000),
    decide (600 ≤ p.minSpan ∧ p.minSpan ≤ 86400),
    decide (600 ≤ p.silenceLimit ∧ p.silenceLimit ≤ 604800),
    decide (p.batteryLimit ≤ 5000),
    decide (10 ≤ p.track ∧ p.track ≤ 300),
    decide (-400 ≤ p.defaultTemp ∧ p.defaultTemp ≤ 700) ].all id

/-- The argument check of LOAD PROFILE (R63). -/
def profileFits (r : Request) : Bool :=
  decide (r.arg8 0 < profileCount) &&
    match r.profile with
    | some p => p.inRange
    | none => false

/-- Does the clamp of R59 act? -/
def weightClamps (p : Profile) : Bool := decide (p.kind = .glass) && decide (4 < p.weight)

/-- The profile as held (R59): a GLASS weight is at most 4. -/
def Profile.held (p : Profile) : Profile := if weightClamps p then { p with weight := 4 } else p

/-- Is the geometry of two profiles the same (R64)? -/
def sameGeometry (p q : Profile) : Bool :=
  decide (p.kind = q.kind) && decide (p.depth = q.depth) && decide (p.mouth = q.mouth) &&
    decide (p.points = q.points)

/-- Is the geometry of a loaded entry changed by a new profile? -/
def geometryChanges (old : Option Profile) (new : Profile) : Bool :=
  match old with
  | some p => !sameGeometry p new
  | none => false

/-- Set a profile-table entry. -/
def State.setProfile (n : Nat) (p : Option Profile) (s : State) : State :=
  { s with profiles := s.profiles.set n p }

/-- The bins whose records name a profile, in ascending order. -/
def State.binsNaming (s : State) (n : Nat) : List Nat :=
  (s.bins.records.entries.filter fun x =>
    match x.2.assigned with
    | some a => a.profile == n
    | none => false).map (·.1)

/-- The reset of one bin by a reload with changed geometry (R65). -/
def State.resetBin (s : State) (b : Nat) : State :=
  match s.assigned b with
  | some a =>
      (s.setAssigned b (some (a.reassigned (s.learned b) s.time.seconds))).handRemoval b
  | none => s

/-- The checks of LOAD PROFILE. -/
def checkLoadProfile (s : State) (r : Request) : Option Result :=
  s.changeChecks r .loadProfile [unplacedRow] (profileFits r) []

/-- LOAD PROFILE applied (R64 to R66). -/
def applyLoadProfile (r : Request) (s : State) : Applied :=
  match r.profile with
  | none => (s, .nothing)
  | some p =>
      let old := s.profiles.get (r.arg8 0)
      let changed := geometryChanges old p
      let bins := if changed then s.binsNaming (r.arg8 0) else []
      (bins.foldl State.resetBin (s.setProfile (r.arg8 0) (some p.held)),
        .profileLoaded old.isSome changed (weightClamps p) p.held.weight bins.length
          (bins.filter fun b => (s.dueEntry b).isSome).length)

/-- LOAD_PROFILE (R63). -/
def execLoadProfile (s : State) : Host.Outcome State Fault Refusal :=
  .next <| s.serve (isOp .loadProfile) checkLoadProfile fun r s =>
    s.carryChange applyLoadProfile allDistricts r

/-! ### CHANGE_APPLICATION -/

/-- The change a gated request makes to the tables; a request that gates nothing is never pending. -/
def applyChange (r : Request) (s : State) : Applied :=
  match r.operation with
  | some .loadPrefix => applyLoadPrefix r s
  | some .clearPrefix => applyClearPrefix r s
  | some .loadDevice => applyLoadDevice r s
  | some .clearDevice => applyClearDevice r s
  | some .loadBin => applyLoadBin r s
  | some .retireBin => applyRetireBin r s
  | some .clearDistrict => applyClearDistrict r s
  | some .loadProfile => applyLoadProfile r s
  | _ => (s, .nothing)

/-- The gate set of a request, from the tables as they stand (R103, section 6.4); a request that is no
table change gates nothing. -/
def State.gateSet (s : State) (r : Request) : List Nat :=
  match r.operation with
  | some .loadPrefix => allDistricts
  | some .clearPrefix => allDistricts
  | some .loadDevice => s.loadDeviceGates (r.arg16 0) (r.arg16 2)
  | some .clearDevice => s.clearDeviceGates (r.arg16 0)
  | some .loadBin => s.loadBinGates (r.arg16 0) (r.arg8 2)
  | some .retireBin => s.districtsOfBin (r.arg16 0)
  | some .clearDistrict => [r.arg8 0]
  | some .loadProfile => allDistricts
  | _ => []

/-- CHANGE_APPLICATION (R104): the pending change is applied once every gated district's in-flight
count is 0. -/
def execChangeApplication (s : State) : Host.Outcome State Fault Refusal :=
  .next <| s.whenRunning fun s =>
    match s.gates.change, s.management.queue with
    | some c, r :: _ => if s.gates.drained c.districts then s.applyPending applyChange c r else s
    | _, _ => s

end Sys2Proof.Machine
end

