-- ==== Sys2Proof/Machine/Reads.lean ====
section
/-! DEFINITION. The reads (R30, R31, R53, R67, R110, R123 to R127, R142, R166, R177): each answers
the head from the tables as they stand and changes none of them. -/

namespace Sys2Proof.Machine

/-- Answer a read with the contents it reports. -/
def State.report (of : Request → State → Contents) (r : Request) (s : State) : State :=
  s.grantOk r (of r s)

/-! ### READ PREFIX (R30) -/

/-- Do two segments share a device-table entry (R30)? -/
def Segment.meets (a b : Segment) : Bool :=
  decide (a.base < b.base + b.length) && decide (b.base < a.base + a.length)

/-- The overlap count of an entry (R30). -/
def State.overlapCount (s : State) (p : Nat) : Nat :=
  match s.translation.prefixes.get p with
  | none => 0
  | some seg =>
      (s.translation.prefixes.entries.filter fun x => x.1 != p && x.2.meets seg).length

/-- The checks of READ PREFIX. -/
def checkReadPrefix (s : State) (r : Request) : Option Result :=
  s.readChecks r .readPrefix [unplacedRow] (decide (r.arg8 0 < prefixCount))

/-- What READ PREFIX reports (R30); an invalid entry has base 0, length 0 and overlap count 0. -/
def reportPrefix (r : Request) (s : State) : Contents :=
  match s.translation.prefixes.get (r.arg8 0) with
  | some seg => .prefixIs true seg.base seg.length (s.overlapCount (r.arg8 0))
  | none => .prefixIs false 0 0 0

/-- READ_PREFIX (R30). -/
def execReadPrefix (s : State) : Host.Outcome State Fault Refusal :=
  .next <| s.serve (isOp .readPrefix) checkReadPrefix (State.report reportPrefix)

/-! ### READ DEVICE (R31) -/

/-- Is a request READ DEVICE in the form BY SENSOR? -/
def isBySensor (r : Request) : Bool := isOp .readDevice r && decide (r.arg8 0 = 1)

/-- Is a request READ DEVICE in the form BY ENTRY, or in no known form (log entry 10)? -/
def isByEntry (r : Request) : Bool := isOp .readDevice r && decide (r.arg8 0 ≠ 1)

/-- The entry number of READ DEVICE BY ENTRY: the low 2 bytes of the operand (12.3). -/
def Request.readEntry (r : Request) : Nat := r.arg16 3

/-- The row of READ DEVICE in a form other than BY SENSOR; an unknown form is taken as row 16
(DESIGN CHOICE, log entry 10). -/
def State.readDeviceRow (s : State) (r : Request) : Nat :=
  if r.arg8 0 = 0 then s.rowOfEntry r.readEntry else unplacedRow

/-- The checks of READ DEVICE BY ENTRY; an unknown form fails BAD_ARGUMENT at check 5 (R182). -/
def checkReadDeviceByEntry (s : State) (r : Request) : Option Result :=
  s.readChecks r .readDevice [s.readDeviceRow r]
    (decide (r.arg8 0 = 0) && decide (r.readEntry < binCount))

/-- What READ DEVICE BY ENTRY reports (R31); an invalid entry has bin 0 and generation 0 (R20). -/
def reportDevice (r : Request) (s : State) : Contents :=
  match s.device r.readEntry with
  | some m => .deviceIs true m.bin m.generation
      (some (decide ((s.record m.bin).mapped = some r.readEntry)))
  | none => .deviceIs false 0 0 none

/-- READ_DEVICE_BY_ENTRY (R31). -/
def execReadDeviceByEntry (s : State) : Host.Outcome State Fault Refusal :=
  .next <| s.serve isByEntry checkReadDeviceByEntry (State.report reportDevice)

/-- The sensor id of READ DEVICE BY SENSOR. -/
def Request.readSensor (r : Request) : SensorId := BitVec.ofNat 32 (word32At r.args 1)

/-- The checks of READ DEVICE BY SENSOR. -/
def checkReadDeviceBySensor (s : State) (r : Request) : Option Result :=
  s.readChecks r .readDevice [unplacedRow] true

/-- The entry number of a sensor id, when test 3 of R21 has passed. -/
def State.entryOfSensor (s : State) (id : SensorId) : Option Nat :=
  match s.translation.prefixes.get (prefixOf id) with
  | some seg =>
      if prefixOf id < prefixCount ∧ indexOf id < seg.length then some (seg.base + indexOf id)
      else none
  | none => none

/-- What READ DEVICE BY SENSOR reports (R31): the result of the six tests, and what each test that
has passed shows. -/
def State.sensorReport (s : State) (id : SensorId) : SensorReport :=
  let entry := s.entryOfSensor id
  let mapping := entry.bind s.device
  { result := match s.translate id with
      | .fault code _ _ => some code
      | .found _ _ => none
    pfx := prefixOf id
    index := indexOf id
    entry := entry
    mapping := mapping
    bin := mapping.map fun m =>
      ((s.record m.bin).state, (s.assigned m.bin).map (·.district),
        (s.assigned m.bin).map (·.generation)) }

/-- What READ DEVICE BY SENSOR reports of a request. -/
def reportSensor (r : Request) (s : State) : Contents := .sensorIs (s.sensorReport r.readSensor)

/-- READ_DEVICE_BY_SENSOR (R31). -/
def execReadDeviceBySensor (s : State) : Host.Outcome State Fault Refusal :=
  .next <| s.serve isBySensor checkReadDeviceBySensor (State.report reportSensor)

/-! ### READ BIN (R53) -/

/-- The report of a bin (R53), its times in planner seconds as the timebase now gives them. -/
def State.binReport (s : State) (b : Nat) (withCalibration : Bool) : BinReport :=
  let rec' := s.record b
  let a := s.assigned b
  { state := rec'.state
    district := a.map (·.district)
    profile := a.map (·.profile)
    generation := a.map (·.generation)
    mapped := rec'.mapped
    lastCount := a.bind (·.lastCount)
    lastHeard := a.map fun x => s.time.planner x.lastHeard
    samples := match a with
      | some x => x.samples
      | none => []
    offset := a.map (·.offset)
    f16 := a.bind (·.f16)
    fill := (a.bind (·.f16)).map fillOf
    surface := a.bind (·.surface)
    anchor := (a.bind (·.anchor)).map fun k => (s.time.planner k.time, k.f16)
    rate := a.bind (·.rate)
    dueCrossed := (a.bind (·.dueCrossed)).map s.time.planner
    fullCrossed := a.any (·.fullCrossed)
    heaped := a.any (·.heaped)
    fastFill := a.any (·.fastFill)
    lid := a.any (·.lid)
    batteryLow := a.any (·.batteryLow)
    unqueued := rec'.unqueued
    battery := a.bind (·.battery)
    quality := s.time.quality
    dueEntry := (s.dueEntry b).map fun e => (s.time.planner e.due, e.silent, e.coarse)
    calibration :=
      if withCalibration then some ((s.learned b).isSome, (s.learned b).getD 0) else none }

/-- The checks of READ BIN. -/
def checkReadBin (s : State) (r : Request) : Option Result :=
  s.readChecks r .readBin [s.rowOfBin (r.arg16 0)] (decide (r.arg16 0 < binCount))

/-- What READ BIN reports. -/
def reportBin (r : Request) (s : State) : Contents := .binIs (s.binReport (r.arg16 0) (r.option 2))

/-- READ_BIN (R53). -/
def execReadBin (s : State) : Host.Outcome State Fault Refusal :=
  .next <| s.serve (isOp .readBin) checkReadBin (State.report reportBin)

/-! ### READ PROFILE (R67) -/

/-- The checks of READ PROFILE: BAD_ARGUMENT, then NOT_LOADED. -/
def checkReadProfile (s : State) (r : Request) : Option Result :=
  firstFailure [formatCheck r .readProfile, s.credentialCheck r, s.viewCheck r [unplacedRow],
    argumentCheck (decide (r.arg8 0 < profileCount)),
    ((s.profiles.get (r.arg8 0)).isSome, .notLoaded)]

/-- How many bins whose records meet a test there are. -/
def State.countBins (s : State) (test : Assigned → Bool) : Nat :=
  (s.bins.records.entries.filter fun x =>
    match x.2.assigned with
    | some a => test a
    | none => false).length

/-- Does a bin name a profile in a state? -/
def namesIn (n : Nat) (st : LiveState) (a : Assigned) : Bool := a.profile == n && a.state == st

/-- What READ PROFILE reports. -/
def reportProfile (r : Request) (s : State) : Contents :=
  .profileIs (s.profileOf (r.arg8 0)) (s.countBins (namesIn (r.arg8 0) .learning))
    (s.countBins (namesIn (r.arg8 0) .active)) (s.countBins (namesIn (r.arg8 0) .silent))

/-- READ_PROFILE (R67). -/
def execReadProfile (s : State) : Host.Outcome State Fault Refusal :=
  .next <| s.serve (isOp .readProfile) checkReadProfile (State.report reportProfile)

/-! ### READ OUTCOMES (R110) -/

/-- A row argument out of range is taken as row 16. -/
def rowArgument (n : Nat) : Nat := if n < rowCount then n else unplacedRow

/-- The checks of READ OUTCOMES. -/
def checkReadOutcomes (s : State) (r : Request) : Option Result :=
  s.readChecks r .readOutcomes [rowArgument (r.arg8 0)] (decide (r.arg8 0 < rowCount))

/-- What READ OUTCOMES reports. -/
def reportOutcomes (r : Request) (s : State) : Contents :=
  let row := r.arg8 0
  .outcomesAre ((List.range tallyCount).map (s.gates.tally row))
    (if row < districtCount then some (s.gates.count row) else none)
    (if row < districtCount then (s.gates.deferred.filter fun d => d.district == row).length
      else s.gates.deferred.length)
    s.inForce.settings.changeWait

/-- READ_OUTCOMES (R110). -/
def execReadOutcomes (s : State) : Host.Outcome State Fault Refusal :=
  .next <| s.serve (isOp .readOutcomes) checkReadOutcomes (State.report reportOutcomes)

/-! ### REQUEST DUE LIST (R123 to R127) -/

/-- The checks of REQUEST DUE LIST. -/
def checkRequestDueList (s : State) (r : Request) : Option Result :=
  s.readChecks r .requestDueList (r.districts.map districtRow)
    (!r.districts.isEmpty && r.districts.all (fun d => decide (d < districtCount)) &&
      decide (1 ≤ r.arg16 0) && decide (r.arg16 0 ≤ dueSize) && decide (r.arg8 2 ≤ 1))

/-- The entries of a district set (R124). -/
def State.matching (s : State) (ds : List Nat) : List DueEntry :=
  s.due.filter fun e => ds.contains e.district

/-- The selection (R125): in key order, up to the maximum count, silent entries only with the
option. -/
def State.selected (s : State) (ds : List Nat) (most : Nat) (withSilent : Bool) : List DueEntry :=
  ((s.matching ds).filter fun e => withSilent || !e.silent).take most

/-- The arrangement of the selected entries (R126): by key, or grouped by district. -/
def arranged (round : Bool) (es : List DueEntry) : List DueEntry :=
  if round then (List.range districtCount).flatMap fun d => es.filter fun e => e.district == d
  else es

/-- An entry as it is sent (R127). -/
def dueItem (t : Timebase) (e : DueEntry) : DueItem :=
  { bin := e.bin, district := e.district, due := t.planner e.due, isOver := e.isOver,
    silent := e.silent, coarse := e.coarse }

/-- The number of frames of a due list (R127). -/
def dueFrameCount (n : Nat) : Nat := max 1 ((n + 31) / 32)

/-- The frames of a due list (R124 to R127), built whole from one snapshot. -/
def State.dueFrames (s : State) (ds : List Nat) (most : Nat) (round withSilent : Bool) :
    List Contents :=
  let items := (arranged round (s.selected ds most withSilent)).map (dueItem s.time)
  (List.range (dueFrameCount items.length)).map fun i =>
    .dueList
      { number := i
        frames := dueFrameCount items.length
        quality := s.time.quality
        selected := items.length
        matching := (s.matching ds).length
        unqueued := (s.bins.records.entries.filter fun x =>
          x.2.unqueued && match x.2.assigned with
            | some a => ds.contains a.district
            | none => false).length
        items := (items.drop (dueFrameSize * i)).take dueFrameSize }

/-- REQUEST_DUE_LIST (R123). -/
def execRequestDueList (s : State) : Host.Outcome State Fault Refusal :=
  .next <| s.serve (isOp .requestDueList) checkRequestDueList fun r s =>
    s.answer r .ok (s.dueFrames r.districts (r.arg16 0) (decide (r.arg8 2 = 1)) (r.option 3))

/-! ### READ COUNTERS (R142) -/

/-- Is a request READ COUNTERS with the reset option? An argument block of a wrong length gives no
option (log entry 10). -/
def isCountersReset (r : Request) : Bool :=
  isOp .readCounters r && r.lengthFits .readCounters && r.option 1

/-- Is a request READ COUNTERS without the reset option? -/
def isCountersRead (r : Request) : Bool := isOp .readCounters r && !isCountersReset r

/-- The checks of READ COUNTERS without the reset option. -/
def checkReadCounters (s : State) (r : Request) : Option Result :=
  s.readChecks r .readCounters [rowArgument (r.arg8 0)] (decide (r.arg8 0 < rowCount))

/-- The 16 counters of a row. -/
def Watch.counters16 (w : Watch) (row : Nat) : List Nat := (List.range classCount).map (w.counter row)

/-- What READ COUNTERS reports (R142). -/
def reportCounters (r : Request) (s : State) : Contents :=
  let row := r.arg8 0
  .countersAre (s.watch.counters16 row) ((List.range classCount).map (s.watch.mode row))
    s.watch.notices.length (s.watch.notices.filter fun n => n.row == row).length

/-- READ_COUNTERS (R142). -/
def execReadCounters (s : State) : Host.Outcome State Fault Refusal :=
  .next <| s.serve isCountersRead checkReadCounters (State.report reportCounters)

/-! ### READ AUTHORITY (R166) -/

/-- The checks of READ AUTHORITY. -/
def checkReadAuthority (s : State) (r : Request) : Option Result :=
  s.readChecks r .readAuthority [unplacedRow] (decide (r.arg8 0 < credentialCount))

/-- What READ AUTHORITY reports. -/
def reportAuthority (r : Request) (s : State) : Contents :=
  .authorityIs (s.authorityOf (r.arg8 0)) s.inForce.settings.credentials
    (decide (r.arg8 0 < s.inForce.settings.credentials))

/-- READ_AUTHORITY (R166). -/
def execReadAuthority (s : State) : Host.Outcome State Fault Refusal :=
  .next <| s.serve (isOp .readAuthority) checkReadAuthority (State.report reportAuthority)

/-! ### READ CONFIG (R177) -/

/-- The checks of READ CONFIG. -/
def checkReadConfig (s : State) (r : Request) : Option Result :=
  s.readChecks r .readConfig [unplacedRow] true

/-- What READ CONFIG reports. Where a write is in progress, the stored items are those the store holds
as far as the write has reached. -/
def State.configReport (s : State) : ConfigReport where
  inForce := s.inForce.settings
  protection := s.inForce.protection
  stored := s.heldNow.settings
  checkMatches := s.heldNow.check == s.heldNow.settings.check
  copies := [s.heldNow.copy1, s.heldNow.copy2, s.heldNow.copy3]
  writing := s.store.writing.isSome
  recordPending := s.store.waiting.isSome
  cause := s.inForce.cause
  status := s.inForce.status
  clamps := s.inForce.clamps
  timeState := s.time.state
  localSeconds := s.time.seconds
  offset := s.time.offset
  lastBeacon := s.time.lastBeacon
  beaconLoss := s.inForce.settings.beaconLoss

/-- What READ CONFIG reports of a request. -/
def reportConfig (_r : Request) (s : State) : Contents := .configIs s.configReport

/-- READ_CONFIG (R177). -/
def execReadConfig (s : State) : Host.Outcome State Fault Refusal :=
  .next <| s.serve (isOp .readConfig) checkReadConfig (State.report reportConfig)

end Sys2Proof.Machine
end

