-- ==== Sys2Proof/Machine/Output.lean ====
section
/-! DEFINITION. The report composer (chapter 9): PAUSE and GO, the outbound arbiter and its grants,
the summary timer, and the bytes of the frames whose layout the manual gives (12.4). -/

namespace Sys2Proof.Machine

/-! ### Candidates and the arbiter (R150) -/

/-- The candidates for the link, in rank order. -/
inductive Candidate where
  | start | response | forced | notice | scheduled | catchUp
deriving DecidableEq, Repr

/-- Has the oldest notice record waited for the notice hold time (R152)? -/
def State.holdPassed (s : State) : Bool :=
  match s.watch.notices with
  | [] => false
  | n :: _ => decide (n.raisedAt + s.inForce.settings.noticeHold ≤ s.time.localMs)

/-- Is the notice queue ready (R152)? -/
def State.noticesReady (s : State) : Bool :=
  decide (noticeBatch ≤ s.watch.notices.length) || s.holdPassed

/-- Is a candidate eligible? The rank of a catch-up is last, so `choose` comes to it only when no
other is (R150, R155). -/
def State.candidate (s : State) : Candidate → Bool
  | .start => s.composer.startPending
  | .response => !s.composer.responses.isEmpty
  | .forced => s.composer.pendingSummary == some .forced
  | .notice => s.noticesReady
  | .scheduled => s.composer.pendingSummary == some .scheduled
  | .catchUp => decide (0 < s.composer.debt)

/-- The candidates in the rank order of R150. -/
def ranks : List Candidate := [.start, .response, .forced, .notice, .scheduled, .catchUp]

/-- Can a grant be made: is the link free and not paused? -/
def State.linkOpen (s : State) : Bool := s.composer.sending.isNone && !s.composer.paused

/-- The candidate a grant takes (R150). -/
def State.choose (s : State) : Option Candidate :=
  if s.linkOpen then ranks.find? s.candidate else none

/-! ### Grants -/

/-- Begin to send a frame. -/
def State.send (f : OutFrame) (s : State) : State :=
  { s with composer := { s.composer with sending := some f } }

/-- The START body (R153, R178). -/
def State.startBody (s : State) : StartBody where
  cause := s.inForce.cause
  status := s.inForce.status
  protection := s.inForce.protection
  family := familyCode
  revision := revisionNumber

/-- Grant START (R153). -/
def State.grantStart (s : State) : State :=
  State.send (.start s.startBody) { s with composer := { s.composer with startPending := false } }

/-- The response list after the next frame of its first response is granted: the response leaves at
its last frame (R151). -/
def nextResponses : List Response → List Response
  | [] => []
  | r :: rest => if r.frames.length ≤ 1 then rest else { r with frames := r.frames.tail } :: rest

/-- Grant the next frame of the oldest response (R151). -/
def State.grantResponse (s : State) : State :=
  match s.composer.responses with
  | [] => s
  | r :: _ =>
      State.send (.response r.tag r.op r.result (r.frames.headD .nothing))
        { s with composer := { s.composer with responses := nextResponses s.composer.responses } }

/-- Grant a NOTICE (R152): up to 8 of the oldest records leave the queue. -/
def State.grantNotice (s : State) : State :=
  State.send (.notice (s.watch.notices.take noticeBatch))
    { s with watch := { s.watch with notices := s.watch.notices.drop noticeBatch } }

/-- Is a bin of a district? -/
def inDistrict (d : Nat) (a : Assigned) : Bool := a.district == d

/-- The reported fills of the district's ACTIVE and SILENT bins that hold F16. -/
def State.fillsOf (s : State) (d : Nat) : List Nat :=
  s.bins.records.entries.filterMap fun x =>
    match x.2.assigned with
    | some a => if a.district = d ∧ a.state ≠ .learning then a.f16.map fillOf else none
    | none => none

/-- The mean of some fills, rounded down; 0 when there is none (R156). -/
def meanOf (l : List Nat) : Nat := l.sum / l.length

/-- The SUMMARY body (R156), built at the grant. -/
def State.summaryBody (s : State) (kind : SummaryKind) (debt : Nat) : SummaryBody :=
  let d := s.composer.rotation
  { district := d
    kind := kind
    debt := debt
    active := s.countBins fun a => inDistrict d a && a.state == .active
    learning := s.countBins fun a => inDistrict d a && a.state == .learning
    silent := s.countBins fun a => inDistrict d a && a.state == .silent
    empty := binCount - s.countBins fun _ => true
    meanFill := meanOf (s.fillsOf d)
    dueCrossed := s.countBins fun a => inDistrict d a && a.dueCrossed.isSome
    fullCrossed := s.countBins fun a => inDistrict d a && a.fullCrossed
    dueEntries := (s.due.filter fun e => e.district == d).length
    time := s.time.planner s.time.seconds
    quality := s.time.quality
    steps := s.composer.steps }

/-- Grant a summary with this debt left (R155, R156): the pointer advances, the time-step count
becomes 0. -/
def State.grantSummary (kind : SummaryKind) (debt : Nat) (pending : Option PendingSummary)
    (s : State) : State :=
  State.send (.summary (s.summaryBody kind debt))
    { s with composer := { s.composer with
        debt := debt
        pendingSummary := pending
        rotation := (s.composer.rotation + 1) % districtCount
        steps := 0 } }

/-- Grant a candidate. -/
def State.grant (s : State) : Candidate → State
  | .start => s.grantStart
  | .response => s.grantResponse
  | .forced => s.grantSummary .forced s.composer.debt none
  | .notice => s.grantNotice
  | .scheduled => s.grantSummary .scheduled s.composer.debt none
  | .catchUp => s.grantSummary .catchUp (s.composer.debt - 1) s.composer.pendingSummary

/-- The arbiter makes a grant, if the link is free and not paused and a candidate is eligible. -/
def State.arbitrate (s : State) : State :=
  match s.choose with
  | some c => s.grant c
  | none => s

/-- The arbiter makes a grant, if it takes one of these candidates. -/
def State.grantIf (cs : List Candidate) (s : State) : State :=
  match s.choose with
  | some c => if cs.contains c then s.grant c else s
  | none => s

/-- START_GRANT (R153). -/
def execStartGrant (s : State) : Host.Outcome State Fault Refusal :=
  .next <| s.whenRunning (State.grantIf [.start])

/-- RESPONSE_GRANT (R151). -/
def execResponseGrant (s : State) : Host.Outcome State Fault Refusal :=
  .next <| s.whenRunning (State.grantIf [.response])

/-- NOTICE_GRANT (R152). -/
def execNoticeGrant (s : State) : Host.Outcome State Fault Refusal :=
  .next <| s.whenRunning (State.grantIf [.notice])

/-- SUMMARY_GRANT (R156): a forced summary at rank 3 or a scheduled one at rank 5. -/
def execSummaryGrant (s : State) : Host.Outcome State Fault Refusal :=
  .next <| s.whenRunning (State.grantIf [.forced, .scheduled])

/-- CATCH_UP_SUMMARY (R155). -/
def execCatchUpSummary (s : State) : Host.Outcome State Fault Refusal :=
  .next <| s.whenRunning (State.grantIf [.catchUp])

/-- TRANSMISSION_END (R150): the frame being sent has been sent to its end; the link is free, and
the arbiter makes the next grant. -/
def execTransmissionEnd (s : State) : Host.Outcome State Fault Refusal :=
  .next <| s.whenRunning fun s =>
    match s.composer.sending with
    | some _ => State.arbitrate { s with composer := { s.composer with sending := none } }
    | none => s

/-! ### PAUSE and GO (R149) -/

/-- Set the paused flag. -/
def State.setPaused (f : Bool) (s : State) : State :=
  { s with composer := { s.composer with paused := f } }

/-- PAUSE (R149). -/
def execPause (s : State) : Host.Outcome State Fault Refusal := .next <| s.whenRunning (State.setPaused true)

/-- GO (R149): clears the flag and lets the arbiter grant at once if the link is free. A GO that
finds the flag clear changes nothing. -/
def execGo (s : State) : Host.Outcome State Fault Refusal :=
  .next <| s.whenRunning fun s =>
    if s.composer.paused then (s.setPaused false).arbitrate else s

/-! ### Notice hold and the summary timer -/

/-- NOTICE_HOLD_EXPIRY (R152): the oldest record's hold time has passed, the queue is ready, and the
arbiter makes a grant if the link is free and not paused (R150). -/
def execNoticeHoldExpiry (s : State) : Host.Outcome State Fault Refusal :=
  .next <| s.whenRunning fun s => if s.holdPassed then s.arbitrate else s

/-- Is the link congested (R154)? -/
def State.congested (s : State) : Bool :=
  s.composer.paused || decide (congestedNotices ≤ s.watch.notices.length) ||
    !s.composer.responses.isEmpty

/-- What a timer expiry makes of the pending summary and the debt (R154). -/
def summaryExpiry (congested : Bool) (c : Composer) : Composer :=
  if c.debt < debtMax then
    if c.pendingSummary.isNone && !congested then { c with pendingSummary := some .scheduled }
    else { c with debt := c.debt + 1 }
  else if c.pendingSummary.isNone then
    { c with pendingSummary := some (if congested then .forced else .scheduled) }
  else c

/-- SUMMARY_TIMER_EXPIRY (R154), once the summary timer has expired. -/
def execSummaryTimerExpiry (s : State) : Host.Outcome State Fault Refusal :=
  .next <| s.whenRunning fun s =>
    match s.composer.summaryDue with
    | some due =>
        if due ≤ s.time.localMs then
          { s with composer := { summaryExpiry s.congested s.composer with
              summaryDue := some (nextExpiry due s.inForce.settings.summaryInterval) } }
        else s
    | none => s

/-! ### The bytes of outbound frames (12.4) -/

/-- A row set as it is sent: 3 bytes in which bit r stands for row r, bits 17 to 23 clear (R181). -/
def rowSetBytes (set : RowSet) : List Byte :=
  [byte (set.toNat / 65536), byte (set.toNat / 256), byte set.toNat]

/-- The row-set fields that a response sends: the VIEW and the CHANGE set of the authority responses
(R165, R166). Where they stand among the contents is the data sheet's (log entry 17). -/
def Contents.rowSets : Contents → List (List Byte)
  | .authorityWas a => [rowSetBytes a.view, rowSetBytes a.change]
  | .authorityIs a _ _ => [rowSetBytes a.view, rowSetBytes a.change]
  | _ => []

/-- A bin field: 0xFFFF where there is no bin (R181). -/
def binField (b : Option Nat) : List Byte := bytes16 (b.getD 0xFFFF)

/-- A notice record as sent: 18 bytes (12.4). -/
def NoticeRecord.bytes (n : NoticeRecord) : List Byte :=
  List.flatten
    [ [byte n.cls.num, byte n.row,
        byte ((if n.origin.isSome then 1 else 0) + (if n.companion then 2 else 0)),
        byte n.quality.code],
      binField n.bin,
      match n.origin with
      | some (id, count) => bytes32 id.toNat ++ bytes16 count.toNat
      | none => bytes32 0 ++ bytes16 0,
      bytes32 n.time.toNat,
      signedBytes16 n.value ]

/-- The protection level and district set as the START body sends them (12.4). -/
def Protection.bytes : Protection → List Byte
  | .none => byte 0 :: bytes16 0
  | .districts set => byte 1 :: bytes16 set.toNat
  | .all => byte 2 :: bytes16 0

/-- The request tag a START body sends: 0 unless the cause is COMMAND (12.4). -/
def StartCause.tag : StartCause → Nat
  | .command t => t
  | _ => 0

/-- The START body as sent: 10 bytes (12.4). -/
def StartBody.bytes (b : StartBody) : List Byte :=
  List.flatten
    [ [byte b.cause.code, byte b.status.code], b.protection.bytes, bytes16 b.family,
      [byte b.revision], bytes16 b.cause.tag ]

/-- The SUMMARY body as sent: 25 bytes (12.4). -/
def SummaryBody.bytes (b : SummaryBody) : List Byte :=
  List.flatten
    [ [byte b.district, byte b.kind.code, byte b.debt],
      [b.active, b.learning, b.silent, b.empty, b.meanFill, b.dueCrossed, b.fullCrossed,
        b.dueEntries].flatMap bytes16,
      bytes32 b.time.toNat,
      [byte b.quality.code, byte b.steps] ]

/-- A due entry as sent: 8 bytes (12.4). -/
def DueItem.bytes (e : DueItem) : List Byte :=
  List.flatten
    [ bytes16 e.bin,
      [byte e.district,
        byte ((if e.isOver then 1 else 0) + (if e.silent then 2 else 0) + (if e.coarse then 4 else 0))],
      bytes32 e.due.toNat ]

/-- A due-list frame's bytes after the response header (12.4). -/
def DueFrame.bytes (f : DueFrame) : List Byte :=
  List.flatten
    [ [byte f.number, byte f.frames, byte f.quality.code],
      [f.selected, f.matching, f.unqueued].flatMap bytes16,
      [byte f.items.length],
      f.items.flatMap DueItem.bytes ]

/-- The bytes of response contents, where the manual gives their layout; the others' is in the data
sheet (00_scope.md). -/
def Contents.bytes : Contents → Option (List Byte)
  | .nothing => some []
  | .dueList f => some f.bytes
  | _ => none

/-- The body of an outbound frame as bytes, where the manual gives its layout. -/
def OutFrame.body : OutFrame → Option (List Byte)
  | .start b => some b.bytes
  | .response tag op result c =>
      c.bytes.map fun bs => bytes16 tag ++ [byte op, byte result.code] ++ bs
  | .notice rs => some (byte rs.length :: rs.flatMap NoticeRecord.bytes)
  | .summary b => some b.bytes

/-- The kind of an outbound frame. -/
def OutFrame.kind : OutFrame → LinkKind
  | .start _ => .start
  | .response _ _ _ _ => .response
  | .notice _ => .notice
  | .summary _ => .summary

/-- An outbound frame as it is sent, in its envelope (R146). -/
def OutFrame.bytes (f : OutFrame) : Option (List Byte) := f.body.map (linkFrame f.kind)

end Sys2Proof.Machine
end

