-- ==== Sys2Proof/Machine/Settings.lean ====
section
/-! DEFINITION. The changes that gate no district: watch masks and counters (R140, R143), authority
(R165), the stored configuration (R176) and RESTART (R179). -/

namespace Sys2Proof.Machine

/-! ### LOAD WATCH MASK (R140) -/

/-- The rows concerned of a row selector; one that names no row is taken as row 16. -/
def selectorRows (n : Nat) : List Nat := (selectedRows n).getD [unplacedRow]

/-- The masks a LOAD WATCH MASK selects, as pairs of row and class. -/
def Request.selection (r : Request) : List (Nat × Nat) :=
  (selectorRows (r.arg8 0)).flatMap fun row => (classesOf (r.set16 1)).map fun cls => (row, cls)

/-- The checks of LOAD WATCH MASK. -/
def checkLoadWatchMask (s : State) (r : Request) : Option Result :=
  s.changeChecks r .loadWatchMask (selectorRows (r.arg8 0))
    ((selectedRows (r.arg8 0)).isSome && decide (r.set16 1 ≠ 0) &&
      (MaskMode.ofCode (r.arg8 3)).isSome) []

/-- Set every selected mask to a mode. -/
def Watch.setModes (sel : List (Nat × Nat)) (m : MaskMode) (w : Watch) : Watch :=
  sel.foldl (fun w x => w.setMode x.1 x.2 m) w

/-- LOAD WATCH MASK applied: every selected mask takes the mode. -/
def State.loadMasks (r : Request) (m : MaskMode) (s : State) : State :=
  State.grantOk r (.masksChanged (r.selection.filter fun x => s.watch.mode x.1 x.2 != m).length)
    { s with watch := s.watch.setModes r.selection m }

/-- LOAD_WATCH_MASK (R140). -/
def execLoadWatchMask (s : State) : Host.Outcome State Fault Refusal :=
  .next <| s.serve (isOp .loadWatchMask) checkLoadWatchMask fun r s =>
    match MaskMode.ofCode (r.arg8 3) with
    | some m => s.loadMasks r m
    | none => s.refuse r .badArgument

/-! ### RESET COUNTERS, and READ COUNTERS with the reset option (R143) -/

/-- Clear the selected counters. -/
def Watch.clearCounters (sel : List (Nat × Nat)) (w : Watch) : Watch :=
  sel.foldl (fun w x => w.setCounter x.1 x.2 0) w

/-- The checks of RESET COUNTERS. -/
def checkResetCounters (s : State) (r : Request) : Option Result :=
  s.changeChecks r .resetCounters (selectorRows (r.arg8 0))
    ((selectedRows (r.arg8 0)).isSome && decide (r.set16 1 ≠ 0)) []

/-- The total of a class's cleared counters over all rows; 0 for a class that is not cleared. -/
def Watch.classTotal (w : Watch) (set : ClassSet) (cls : Nat) : Nat :=
  if set.getLsbD cls then ((List.range rowCount).map fun row => w.counter row cls).sum else 0

/-- The values RESET COUNTERS reports (R143): the row's counters, or for ALL the class totals. -/
def Request.clearedValues (r : Request) (w : Watch) : List Nat :=
  if r.arg8 0 < rowCount then w.counters16 (r.arg8 0)
  else (List.range classCount).map (w.classTotal (r.set16 1))

/-- RESET_COUNTERS (R143). -/
def execResetCounters (s : State) : Host.Outcome State Fault Refusal :=
  .next <| s.serve (isOp .resetCounters) checkResetCounters fun r s =>
    State.grantOk r (.countersWere (r.clearedValues s.watch))
      { s with watch := s.watch.clearCounters r.selection }

/-- The checks of READ COUNTERS with the reset option: a read and a change at once (R142, R164). -/
def checkReadCountersReset (s : State) (r : Request) : Option Result :=
  let rows := [rowArgument (r.arg8 0)]
  firstFailure [formatCheck r .readCounters, s.credentialCheck r, s.viewCheck r rows,
    s.changeCheck r rows, s.protectionCheck rows, argumentCheck (decide (r.arg8 0 < rowCount))]

/-- Every counter of one row. -/
def rowSelection (row : Nat) : List (Nat × Nat) := (List.range classCount).map fun cls => (row, cls)

/-- READ_COUNTERS_RESET (R143): the counters reported are the counters cleared. -/
def execReadCountersReset (s : State) : Host.Outcome State Fault Refusal :=
  .next <| s.serve isCountersReset checkReadCountersReset fun r s =>
    State.grantOk r (reportCounters r s)
      { s with watch := s.watch.clearCounters (rowSelection (r.arg8 0)) }

/-! ### LOAD AUTHORITY (R165) -/

/-- The checks of LOAD AUTHORITY. -/
def checkLoadAuthority (s : State) (r : Request) : Option Result :=
  s.ownerChecks r .loadAuthority (decide (1 ≤ r.arg8 0) && decide (r.arg8 0 < credentialCount))

/-- The sets a LOAD AUTHORITY carries. -/
def Request.sets (r : Request) : Authority := { view := r.rowSet 1, change := r.rowSet 4 }

/-- Replace a credential's sets. -/
def State.setAuthority (c : Nat) (a : Authority) (s : State) : State :=
  { s with management := { s.management with
                             authority := s.management.authority.write .nothing c a } }

/-- LOAD_AUTHORITY (R165). -/
def execLoadAuthority (s : State) : Host.Outcome State Fault Refusal :=
  .next <| s.serve (isOp .loadAuthority) checkLoadAuthority fun r s =>
    State.grantOk r (.authorityWas (s.authorityOf (r.arg8 0))) (s.setAuthority (r.arg8 0) r.sets)

/-! ### STORE CONFIG (R176) -/

/-- The checks of STORE CONFIG: the protection alone. -/
def checkStoreConfig (s : State) (r : Request) : Option Result :=
  s.ownerChecks r .storeConfig
    (decide (r.arg8 16 ≤ 2) && !(decide (r.arg8 16 = 1) && decide (r.set16 17 = 0)))

/-- STORE_CONFIG (R176): its record becomes the pending record of the store. -/
def execStoreConfig (s : State) : Host.Outcome State Fault Refusal :=
  .next <| s.serve (isOp .storeConfig) checkStoreConfig fun r s =>
    State.grantOk r (.configStored r.record.settings.clampList s.store.writing.isSome)
      { s with store := { s.store with waiting := some r.record } }

/-! ### RESTART (R179) -/

/-- The checks of RESTART. -/
def checkRestart (s : State) (r : Request) : Option Result := s.ownerChecks r .restart true

/-- RESTART (R179): the cause of a start with cause COMMAND and the request's tag. -/
def execRestart (s : State) : Host.Outcome State Fault Refusal :=
  .next <| s.serve (isOp .restart) checkRestart fun r s => s.restarted (.command r.tag)

end Sys2Proof.Machine
end

