-- ==== Sys2Proof/Machine/Starts.lean ====
section
/-! DEFINITION. The timebase (chapter 11), the nonvolatile store, power, the reset line and the start
sequence, and the discarding of faulty inbound frames (R147). -/

namespace Sys2Proof.Machine

/-! ### The timebase -/

/-- The offset a beacon gives (R172). -/
def Timebase.beaconOffset (t : Timebase) (seconds : BitVec 32) : Int :=
  (seconds.toNat : Int) - (t.seconds : Int)

/-- Is a beacon a step: does it change the offset by more than the beacon tolerance (R172)? -/
def Timebase.isStep (t : Timebase) (seconds : BitVec 32) : Bool :=
  decide (beaconTolerance < (t.beaconOffset seconds - t.offset).natAbs)

/-- The timebase after a beacon (R172). -/
def Timebase.beacon (t : Timebase) (seconds : BitVec 32) : Timebase :=
  { t with offset := t.beaconOffset seconds, state := .synced, lossRunning := true,
           lastBeacon := some t.seconds }

/-- TIME_BEACON (R172): a step is told to the composer, whose count saturates (R156). -/
def execTimeBeacon (seconds : BitVec 32) (s : State) : Host.Outcome State Fault Refusal :=
  .next <| s.whenRunning fun s =>
    { s with
      time := s.time.beacon seconds
      composer := if s.time.isStep seconds then
          { s.composer with steps := min stepsMax (s.composer.steps + 1) }
        else s.composer }

/-- Has the beacon-loss limit passed since the last beacon (R173)? The timer runs only in SYNCED. -/
def State.beaconLost (s : State) : Bool :=
  s.time.lossRunning && s.time.state == .synced &&
    match s.time.lastBeacon with
    | some t => decide (t + s.inForce.settings.beaconLoss ≤ s.time.seconds)
    | none => false

/-- BEACON_LOSS_EXPIRY (R173). -/
def execBeaconLossExpiry (s : State) : Host.Outcome State Fault Refusal :=
  .next <| s.whenRunning fun s =>
    if s.beaconLost then
      { s with time := { s.time with state := .freeRun, lossRunning := false } }
    else s

/-! ### The store (R176) -/

/-- Is the part powered? -/
def State.isPowered (s : State) : Bool :=
  match s.phase with
  | .off => false
  | _ => true

/-- STORE_WRITE_BEGIN (R176): with a record pending and no write in progress. -/
def execStoreWriteBegin (s : State) : Host.Outcome State Fault Refusal :=
  .next <|
    match s.isPowered, s.store.waiting, s.store.writing with
    | true, some record, none =>
        { s with store := { s.store with waiting := none,
                                         writing := some { record := record, point := .block } } }
    | _, _, _ => s

/-- STORE_WRITE_END (R176): the write in progress ends. -/
def execStoreWriteEnd (s : State) : Host.Outcome State Fault Refusal :=
  .next <|
    match s.isPowered, s.store.writing with
    | true, some w => { s with store := s.store.finish w }
    | _, _ => s

/-! ### Power and the reset line (R178) -/

/-- POWER_ON (R178): every block takes its power-on state, and a start with cause POWER_ON begins. -/
def execPowerOn (s : State) : Host.Outcome State Fault Refusal :=
  .next <| if s.isPowered then s else s.poweredOn

/-- POWER_LOSS (R176): the part is off, a store write is cut off and the pending record is lost. -/
def execPowerLoss (s : State) : Host.Outcome State Fault Refusal :=
  .next <|
    if s.isPowered then
      { s with phase := .off, store := s.store.cutOff s.drawn, drawn := s.drawn + 1 }
    else s

/-- RESET_LINE_ASSERT (R178): every block takes its restart state, also when a start was under way;
without power the line alone changes. -/
def execResetLineAssert (s : State) : Host.Outcome State Fault Refusal :=
  .next <|
    if s.resetLine then s
    else if s.isPowered then { s.restarted .resetLine with resetLine := true }
    else { s with resetLine := true }

/-- RESET_LINE_RELEASE (R178). -/
def execResetLineRelease (s : State) : Host.Outcome State Fault Refusal :=
  .next { s with resetLine := false }

/-! ### The end of a start (R174, R175, R178) -/

/-- Steps 3 and 4 of a start (R178): the values in force, the timers, the START frame. -/
def State.started (cause : StartCause) (s : State) : State :=
  let f := s.store.putInForce cause
  { s with
    phase := .running
    inForce := f
    bins := { s.bins with sweepDue := some (nextExpiry s.time.localMs f.settings.sweepInterval) }
    composer := { s.composer with
      startPending := true
      summaryDue := some (nextExpiry s.time.localMs f.settings.summaryInterval) } }

/-- START_COMPLETE (R178): with the reset line released, and after the store has written to its end. -/
def execStartComplete (s : State) : Host.Outcome State Fault Refusal :=
  .next <|
    match s.phase with
    | .starting cause =>
        if !s.resetLine && s.store.waiting.isNone && s.store.writing.isNone then s.started cause
        else s
    | _ => s

/-! ### Inbound frames that fail a check -/

/-- INBOUND_FRAME_DISCARDED (R147): one MALFORMED event in row 16 with code 0x30 and the detail of
the first check that fails; a frame that passes them all is not discarded. -/
def execInboundFrameDiscarded (bytes : List Byte) (s : State) : Host.Outcome State Fault Refusal :=
  .next <| s.whenRunning fun s =>
    match linkFault bytes with
    | some d => s.raiseLinkFault d
    | none => s

end Sys2Proof.Machine
end

