-- ==== Sys2Proof/Machine/Dispatch.lean ====
section
/-! DEFINITION. `exec`: the meaning of each command, one arm a row of spec/opcode_table.json. -/

namespace Sys2Proof.Machine

def exec (i : Instr) (s : State) : Host.Outcome State Fault Refusal :=
  match i with
  | .intakeFrameTake chain0 chain1 chain2 chain3 => Sys2Proof.Machine.execIntakeFrameTake chain0 chain1 chain2 chain3 s
  | .mergeEntryExpiry sensor count => Sys2Proof.Machine.execMergeEntryExpiry sensor count s
  | .admissionPlaceGrant => Sys2Proof.Machine.execAdmissionPlaceGrant s
  | .estimateStart => Sys2Proof.Machine.execEstimateStart s
  | .estimateCompletion bin => Sys2Proof.Machine.execEstimateCompletion bin s
  | .silenceSweep => Sys2Proof.Machine.execSilenceSweep s
  | .managementFrame body => Sys2Proof.Machine.execManagementFrame body s
  | .timeBeacon seconds => Sys2Proof.Machine.execTimeBeacon seconds s
  | .pause => Sys2Proof.Machine.execPause s
  | .go => Sys2Proof.Machine.execGo s
  | .loadPrefix => Sys2Proof.Machine.execLoadPrefix s
  | .clearPrefix => Sys2Proof.Machine.execClearPrefix s
  | .readPrefix => Sys2Proof.Machine.execReadPrefix s
  | .loadDevice => Sys2Proof.Machine.execLoadDevice s
  | .clearDevice => Sys2Proof.Machine.execClearDevice s
  | .readDeviceByEntry => Sys2Proof.Machine.execReadDeviceByEntry s
  | .readDeviceBySensor => Sys2Proof.Machine.execReadDeviceBySensor s
  | .loadBin => Sys2Proof.Machine.execLoadBin s
  | .retireBin => Sys2Proof.Machine.execRetireBin s
  | .clearDistrict => Sys2Proof.Machine.execClearDistrict s
  | .readBin => Sys2Proof.Machine.execReadBin s
  | .loadProfile => Sys2Proof.Machine.execLoadProfile s
  | .readProfile => Sys2Proof.Machine.execReadProfile s
  | .readOutcomes => Sys2Proof.Machine.execReadOutcomes s
  | .requestDueList => Sys2Proof.Machine.execRequestDueList s
  | .loadWatchMask => Sys2Proof.Machine.execLoadWatchMask s
  | .readCounters => Sys2Proof.Machine.execReadCounters s
  | .readCountersReset => Sys2Proof.Machine.execReadCountersReset s
  | .resetCounters => Sys2Proof.Machine.execResetCounters s
  | .loadAuthority => Sys2Proof.Machine.execLoadAuthority s
  | .readAuthority => Sys2Proof.Machine.execReadAuthority s
  | .storeConfig => Sys2Proof.Machine.execStoreConfig s
  | .readConfig => Sys2Proof.Machine.execReadConfig s
  | .restart => Sys2Proof.Machine.execRestart s
  | .unknownOp => Sys2Proof.Machine.execUnknownOp s
  | .changeApplication => Sys2Proof.Machine.execChangeApplication s
  | .changeTimeout => Sys2Proof.Machine.execChangeTimeout s
  | .transmissionEnd => Sys2Proof.Machine.execTransmissionEnd s
  | .startGrant => Sys2Proof.Machine.execStartGrant s
  | .responseGrant => Sys2Proof.Machine.execResponseGrant s
  | .noticeGrant => Sys2Proof.Machine.execNoticeGrant s
  | .summaryGrant => Sys2Proof.Machine.execSummaryGrant s
  | .catchUpSummary => Sys2Proof.Machine.execCatchUpSummary s
  | .noticeHoldExpiry => Sys2Proof.Machine.execNoticeHoldExpiry s
  | .summaryTimerExpiry => Sys2Proof.Machine.execSummaryTimerExpiry s
  | .beaconLossExpiry => Sys2Proof.Machine.execBeaconLossExpiry s
  | .storeWriteBegin => Sys2Proof.Machine.execStoreWriteBegin s
  | .storeWriteEnd => Sys2Proof.Machine.execStoreWriteEnd s
  | .powerOn => Sys2Proof.Machine.execPowerOn s
  | .powerLoss => Sys2Proof.Machine.execPowerLoss s
  | .resetLineAssert => Sys2Proof.Machine.execResetLineAssert s
  | .resetLineRelease => Sys2Proof.Machine.execResetLineRelease s
  | .startComplete => Sys2Proof.Machine.execStartComplete s
  | .inboundFrameDiscarded bytes => Sys2Proof.Machine.execInboundFrameDiscarded bytes s

end Sys2Proof.Machine
end

