-- ==== Sys2Proof/Machine/Idle.lean ====
section
/-! DEFINITION. What the part does while no command waits (log entry 1): a step of its own that the
rules say is taken at once, or whose time has come; where there is none, the clock ticks. -/

namespace Sys2Proof.Machine

/-- The command that carries out a request at the head of the queue. -/
def headCommand (r : Request) : Instr :=
  match r.operation with
  | none => .unknownOp
  | some .loadPrefix => .loadPrefix
  | some .clearPrefix => .clearPrefix
  | some .readPrefix => .readPrefix
  | some .loadDevice => .loadDevice
  | some .clearDevice => .clearDevice
  | some .readDevice => if isBySensor r then .readDeviceBySensor else .readDeviceByEntry
  | some .loadBin => .loadBin
  | some .retireBin => .retireBin
  | some .clearDistrict => .clearDistrict
  | some .readBin => .readBin
  | some .loadProfile => .loadProfile
  | some .readProfile => .readProfile
  | some .readOutcomes => .readOutcomes
  | some .requestDueList => .requestDueList
  | some .loadWatchMask => .loadWatchMask
  | some .readCounters => if isCountersReset r then .readCountersReset else .readCounters
  | some .resetCounters => .resetCounters
  | some .loadAuthority => .loadAuthority
  | some .readAuthority => .readAuthority
  | some .storeConfig => .storeConfig
  | some .readConfig => .readConfig
  | some .restart => .restart

/-- The checks of the request at the head, by its operation: the result of the first that fails
(R162). -/
def headCheck (s : State) (r : Request) : Option Result :=
  match r.operation with
  | none => some .unknownOp
  | some .loadPrefix => checkLoadPrefix s r
  | some .clearPrefix => checkClearPrefix s r
  | some .readPrefix => checkReadPrefix s r
  | some .loadDevice => checkLoadDevice s r
  | some .clearDevice => checkClearDevice s r
  | some .readDevice =>
      if isBySensor r then checkReadDeviceBySensor s r else checkReadDeviceByEntry s r
  | some .loadBin => checkLoadBin s r
  | some .retireBin => checkRetireBin s r
  | some .clearDistrict => checkClearDistrict s r
  | some .readBin => checkReadBin s r
  | some .loadProfile => checkLoadProfile s r
  | some .readProfile => checkReadProfile s r
  | some .readOutcomes => checkReadOutcomes s r
  | some .requestDueList => checkRequestDueList s r
  | some .loadWatchMask => checkLoadWatchMask s r
  | some .readCounters =>
      if isCountersReset r then checkReadCountersReset s r else checkReadCounters s r
  | some .resetCounters => checkResetCounters s r
  | some .loadAuthority => checkLoadAuthority s r
  | some .readAuthority => checkReadAuthority s r
  | some .storeConfig => checkStoreConfig s r
  | some .readConfig => checkReadConfig s r
  | some .restart => checkRestart s r

/-- The command that makes a grant. -/
def grantCommand : Candidate → Instr
  | .start => .startGrant
  | .response => .responseGrant
  | .forced => .summaryGrant
  | .notice => .noticeGrant
  | .scheduled => .summaryGrant
  | .catchUp => .catchUpSummary

/-- A command, where a test holds. -/
def commandIf (b : Bool) (c : Instr) : Option Instr := if b then some c else none

/-- Has a timer's next expiry come? -/
def State.reached (s : State) : Option Nat → Bool
  | some due => decide (due ≤ s.time.localMs)
  | none => false

/-- Can the start end (R178)? -/
def State.startCanEnd (s : State) : Bool :=
  (match s.phase with
    | .starting _ => true
    | _ => false) && !s.resetLine && s.store.waiting.isNone && s.store.writing.isNone

/-- The expiry of a merge entry that has not expired yet and whose expiry has come (R10). -/
def State.mergeExpiry (s : State) : Option Instr :=
  (s.intake.window.find? fun e => !e.held && decide (e.expiry ≤ s.time.localMs)).map fun e =>
    .mergeEntryExpiry e.sensor e.count

/-- The steps of its own that a running part can take, in the order the model takes them: those the
rules say are taken at once, then those whose time has come. The rules leave their order among
themselves open, and also which of several estimates in flight completes first (R70, R72) and which
of several merge entries due in one millisecond expires first (R10). DESIGN CHOICE (log entry 1): this
order, the estimate that started earliest, the entry that was opened first. -/
def State.runningSteps (s : State) : List (Option Instr) :=
  [ commandIf (s.gates.change.any fun c => s.gates.drained c.districts && !s.management.queue.isEmpty)
      .changeApplication,
    commandIf s.grantPlace.isSome .admissionPlaceGrant,
    commandIf s.nextFrame.isSome .estimateStart,
    s.choose.map grantCommand,
    s.head.map headCommand,
    s.slots.head?.map fun e => .estimateCompletion e.frame.bin,
    s.mergeExpiry,
    commandIf (s.reached s.bins.sweepDue) .silenceSweep,
    commandIf (s.gates.change.any fun c => s.changeExpired c && !s.gates.drained c.districts &&
      !s.management.queue.isEmpty) .changeTimeout,
    commandIf (s.reached s.composer.summaryDue) .summaryTimerExpiry,
    commandIf s.beaconLost .beaconLossExpiry ]

/-- The step of its own that the part takes while no command waits. The end of a transmission is the
line's (R150), so it is no step of the part's own. -/
def State.ownStep (s : State) : Option Instr :=
  if s.isPowered && s.store.waiting.isSome && s.store.writing.isNone then some .storeWriteBegin
  else if s.startCanEnd then some .startComplete
  else if s.isRunning then s.runningSteps.findSome? id
  else none

/-- The clock: local time rises by one millisecond (R171), and a store write may reach its next part
(free value, log entry 5). Without power nothing goes on. -/
def State.tick (s : State) : State :=
  if s.isPowered then
    { s with
      time := { s.time with localMs := s.time.localMs + 1 }
      store := match s.store.writing with
        | some w => if Config.storeReaches s.drawn then s.store.advance w else s.store
        | none => s.store
      drawn := if s.store.writing.isSome then s.drawn + 1 else s.drawn }
  else s

end Sys2Proof.Machine
end

