-- ==== Sys2Proof/Machine/Step.lean ====
section
/-! DEFINITION. One step: the command at the front of the queue is taken, or, where none waits, the
part goes on by itself. -/

namespace Sys2Proof.Machine

/-- While no command waits, the part takes a step of its own, or the clock ticks (log entry 1). -/
def idle (s : State) : Host.Outcome State Fault Refusal :=
  match s.ownStep with
  | some c => exec c s
  | none => .next s.tick

/-- One step: the command at the front of the queue is carried out with the rest of the queue
waiting; on an empty queue the part goes on by itself. -/
def step (s : State) : Host.Outcome State Fault Refusal :=
  match s.pending with
  | [] => idle s
  | c :: rest => exec c { s with pending := rest }

/-- The state with the command that a word spells put in front of the queue; the table gives no row
bits, so no word spells one. -/
def State.withFetchWord (s : State) (nbits w : Nat) : State :=
  match decodeTableWord nbits w with
  | some c => { s with pending := c :: s.pending }
  | none => s

end Sys2Proof.Machine
end

