-- ==== Sys2Proof/Safety.lean ====
section
/-! DEFINITION. The invariants of the part: what the rules say holds at every moment, as properties
of the state. None of them limits what `exec` does. -/

namespace Sys2Proof.Machine

/-- The tables are in their canonical forms: numbers strictly rising, and nothing listed that an
unlisted number reads as. -/
structure State.Canonical (s : State) : Prop where
  prefixes : s.translation.prefixes.wf = true
  devices : s.translation.devices.wf = true
  records : s.bins.records.canonical (fun _ => .vacant) = true
  calibration : s.bins.calibration.wf = true
  profiles : s.profiles.wf = true
  gates : s.gates.states.canonical (fun _ => .opened) = true
  inFlight : s.gates.inFlight.canonical (fun _ => 0) = true
  tallies : s.gates.tallies.canonical (fun _ => 0) = true
  masks : s.watch.masks.canonical (fun k => defaultMode (k % classCount)) = true
  counters : s.watch.counters.canonical (fun _ => 0) = true
  authority : s.management.authority.canonical (fun _ => .nothing) = true

/-- No queue, list or count is larger than its rule allows (R5, R12, R70, R102, R113, R136, R151,
R154, R156, R160). One place of the response list is kept for the change that waits (R151). -/
structure State.Bounded (s : State) : Prop where
  window : s.intake.window.length ≤ windowSize
  admission : s.intake.admission.length ≤ admissionSize
  slots : s.slots.length ≤ slotCount
  deferred : s.gates.deferred.length ≤ deferredSize
  due : s.due.length ≤ dueSize
  notices : s.watch.notices.length ≤ noticeSize
  queue : s.management.queue.length ≤ queueSize
  responses : s.composer.responses.length + (if s.headWaits then 1 else 0) ≤ responseSize
  debt : s.composer.debt ≤ debtMax
  rotation : s.composer.rotation < districtCount
  steps : s.composer.steps ≤ stepsMax

/-- The merge window holds no two entries of one key (R5). -/
def State.KeysDistinct (s : State) : Prop :=
  s.intake.window.Pairwise fun e f => e.hasKey f.sensor f.count = false

/-- No two estimates in flight are for one bin (R70), and each district's in-flight count is the
number of estimates in flight of that district (R100). -/
structure State.InFlightSound (s : State) : Prop where
  bins : (s.slots.map fun e => e.frame.bin).Nodup
  counts : ∀ d, s.gates.count d = (s.slots.filter fun e => e.district == d).length

/-- A gate is CHANGING exactly while a pending change holds its district (R100, R103). -/
def State.GatesSound (s : State) : Prop :=
  ∀ d, s.gates.state d = .changing ↔ ∃ c, s.gates.change = some c ∧ d ∈ c.districts

/-- Offsets and calibration entries agree with the bin states (R33, R34, R39, R47): the offset of a
record is the calibration entry's, 0 while it is not learned, and lies in −120..+120; an ACTIVE bin's
entry is learned, a LEARNING bin's is not. -/
structure State.CalibrationSound (s : State) : Prop where
  offset : ∀ b a, s.assigned b = some a → a.offset = (s.learned b).getD 0
  active : ∀ b a, s.assigned b = some a → a.state = .active → (s.learned b).isSome = true
  learning : ∀ b a, s.assigned b = some a → a.state = .learning → s.learned b = none
  range : ∀ b v, s.learned b = some v → -120 ≤ v ∧ v ≤ 120

/-- The collection-due queue: one entry a bin, ascending keys, and entries only for bins that are
ACTIVE or SILENT with a learned offset (R113). -/
structure State.DueSound (s : State) : Prop where
  bins : (s.due.map fun e => e.bin).Nodup
  ordered : s.due.Pairwise fun x y => x.before y = true
  live : ∀ e ∈ s.due, ∃ a, s.assigned e.bin = some a ∧ a.state ≠ .learning ∧
    (s.learned e.bin).isSome = true

/-- The translation tables (R19, R20): segments lie in the device table, device entries name bins,
and a bin's mapped device entry is the one valid entry that names the bin. -/
structure State.TranslationSound (s : State) : Prop where
  segments : ∀ p seg, s.translation.prefixes.get p = some seg →
    p < prefixCount ∧ 1 ≤ seg.length ∧ seg.base + seg.length ≤ binCount
  entries : ∀ e m, s.device e = some m → e < binCount ∧ m.bin < binCount
  named : ∀ e m, s.device e = some m → (s.record m.bin).mapped = some e
  mapped : ∀ b e, (s.record b).mapped = some e → ∃ m, s.device e = some m ∧ m.bin = b

/-- The profile table and the bins that name it (R56, R58, R59): a loaded profile's fields lie in
their ranges, a GLASS weight is at most 4, and every bin that is not EMPTY names a loaded profile and
lies in one of the 16 districts. -/
structure State.ProfilesSound (s : State) : Prop where
  fields : ∀ n p, s.profiles.get n = some p → p.inRange = true ∧ (p.kind = .glass → p.weight ≤ 4)
  named : ∀ b a, s.assigned b = some a → (s.profiles.get a.profile).isSome = true
  districts : ∀ b a, s.assigned b = some a → a.district < districtCount

/-- The argument check of a change that gates districts, with the tables it is made against (R26 to
R29, R46, R50, R51, R63). -/
def State.changeFits (s : State) (r : Request) : Bool :=
  match r.operation with
  | some .loadPrefix => prefixFits r
  | some .clearPrefix => decide (r.arg8 0 < prefixCount)
  | some .loadDevice => deviceFits r && !s.namedElsewhere (r.arg16 0) (r.arg16 2)
  | some .clearDevice => decide (r.arg16 0 < binCount)
  | some .loadBin => binFits r && (s.profiles.get (r.arg8 3)).isSome
  | some .retireBin => decide (r.arg16 0 < binCount)
  | some .clearDistrict => decide (r.arg8 0 < districtCount)
  | some .loadProfile => profileFits r
  | _ => false

/-- The change that waits stands at the front of the management queue, has passed its argument check
against the tables as they still stand, and gates its whole gate set (R103, R160, R161). -/
def State.PendingSound (s : State) : Prop :=
  ∀ c, s.gates.change = some c → ∃ r rest, s.management.queue = r :: rest ∧
    s.changeFits r = true ∧ c.districts = s.gateSet r

/-- Every bin in flight keeps the district its estimate started in (R35). -/
def State.FlightsSound (s : State) : Prop :=
  ∀ e ∈ s.slots, ∃ a, s.assigned e.frame.bin = some a ∧ a.district = e.district

/-- The fields of a record that is not EMPTY lie in their ranges (R33, R34). -/
structure Assigned.InRange (a : Assigned) : Prop where
  offset : -120 ≤ a.offset ∧ a.offset ≤ 120
  samples : a.samples.length ≤ 3
  f16 : ∀ v, a.f16 = some v → v ≤ 16000
  anchor : ∀ k, a.anchor = some k → k.f16 ≤ 16000
  rate : ∀ v, a.rate = some v → v ≤ 2000
  battery : ∀ v, a.battery = some v → v ≤ 5000

/-- The timebase (R171, R173): in UNSET the offset is 0 and no beacon has been taken, and the
beacon-loss timer runs only in SYNCED. -/
structure Timebase.Sound (t : Timebase) : Prop where
  unset : t.state = .unset → t.offset = 0 ∧ t.lastBeacon = none
  running : t.lossRunning = true → t.state = .synced

/-- The settings in force lie in their ranges (R174). -/
structure Settings.InRange (s : Settings) : Prop where
  mergeWindow : s.mergeWindow ≤ 8000 ∧ s.mergeWindow % 250 = 0
  sweepInterval : 60 ≤ s.sweepInterval ∧ s.sweepInterval ≤ 3600
  dueHorizon : 1 ≤ s.dueHorizon ∧ s.dueHorizon ≤ 30
  changeWait : 1 ≤ s.changeWait ∧ s.changeWait ≤ 60
  noticeHold : s.noticeHold ≤ 10000
  summaryInterval : 60 ≤ s.summaryInterval ∧ s.summaryInterval ≤ 3600
  beaconLoss : 60 ≤ s.beaconLoss ∧ s.beaconLoss ≤ 3600
  credentials : 1 ≤ s.credentials ∧ s.credentials ≤ 8

end Sys2Proof.Machine
end

