-- ==== Sys2Proof/Certificates/Slice0/Obligations.lean ====
section
/-! DEFINITION. The statements about the part, one `Obligations.<Name>` each, after the words they
share. The comment of each names the rules it rests on. -/

open Sys2Proof Sys2Proof.Machine

namespace Sys2Proof.Statements

/-- What an offered frame's payload is, and that it is what the port takes next and passes its form
checks (R1, R2, R3). -/
def Takes (s : State) (c0 c1 c2 c3 : Option ChainFrame) (chain : Nat) (f : ChainFrame) : Prop :=
  s.phase = .running ∧ chooseChain s.intake.lastChain [c0, c1, c2, c3] = some (chain, f)

/-- No entry of the merge window has a payload's key. -/
def NewKey (s : State) (p : List Byte) : Prop :=
  ∀ e ∈ s.intake.window, ¬ (e.sensor = sensorOf p ∧ e.count = countOf p)

/-- The merge entry that a payload of a quality opens now (R8). -/
def opened (s : State) (quality : Nat) (p : List Byte) : MergeEntry :=
  { sensor := sensorOf p, count := countOf p, quality := quality, payload := p,
    openedAt := s.time.localMs, expiry := s.time.localMs + s.inForce.settings.mergeWindow,
    held := false }

/-- A frame ends, or is set aside, with an outcome in a row and one event (R97, R99): that count of
that row's tally rises by one, no other count changes, and the watch unit takes the event. -/
def Ends (s t : State) (row : Nat) (o : OutcomeCode) (e : Event) : Prop :=
  (∀ r k, k < tallyCount →
    t.gates.tally r k = if r = row ∧ k = o.place then s.gates.tally r k + 1 else s.gates.tally r k) ∧
  t.watch = s.watch.takeGroup s.time [e]

/-- The event that a payload raises in a row, with its outcome code as value (R97). -/
def outcomeEvent (cls : WatchClass) (row : Nat) (bin : Option Nat) (p : List Byte) (o : OutcomeCode) :
    Event :=
  { cls := cls, row := row, bin := bin, origin := some (sensorOf p, countOf p), value := o.code }

/-- What becomes of a merge entry that is released (R11, R21, R23, R101), besides its leaving the
window: it faults, is admitted, is set aside, or is refused. -/
def Released (s t : State) (e : MergeEntry) : Prop :=
  match s.translate (sensorOf e.payload) with
  | .fault code row bin =>
      t.intake.admission = s.intake.admission ∧ t.gates.deferred = s.gates.deferred ∧
        Ends s t row code (outcomeEvent .unmapped row bin e.payload code)
  | .found bin district =>
      let f : Frame := { payload := e.payload, bin := bin, arrival := e.openedAt / 1000 }
      if s.gates.state district = .opened then
        t.intake.admission = s.intake.admission ++ [f] ∧ t.gates = s.gates ∧ t.watch = s.watch
      else if s.gates.deferred.length < 32 then
        t.intake.admission = s.intake.admission ∧
          t.gates.deferred = s.gates.deferred ++ [{ frame := f, district := district }] ∧
          Ends s t district .nullified
            (outcomeEvent .deferred district (some bin) e.payload .nullified)
      else
        t.intake.admission = s.intake.admission ∧ t.gates.deferred = s.gates.deferred ∧
          Ends s t district .deferFull
            (outcomeEvent .overrun district (some bin) e.payload .deferFull)

/-- One free admission place is given (R15): to the earliest deferred frame of an OPEN district, which
leaves the deferred queue, or, where none waits, to the held merge entry of the earliest expiry, of
equal ones the one opened first, which leaves the window and is released. -/
def PlaceGiven (s t : State) : Prop :=
  s.intake.admission.length < 16 ∧
  ((∃ before d after, s.gates.deferred = before ++ d :: after ∧
      (∀ x ∈ before, s.gates.state x.district ≠ .opened) ∧ s.gates.state d.district = .opened ∧
      t = { s with
        intake := { s.intake with admission := s.intake.admission ++ [d.frame] }
        gates := { s.gates with deferred := before ++ after } }) ∨
    ((∀ d ∈ s.gates.deferred, s.gates.state d.district ≠ .opened) ∧
      ∃ before e after, s.intake.window = before ++ e :: after ∧ e.held = true ∧
        (∀ x ∈ before, x.held = true → e.expiry < x.expiry) ∧
        (∀ x ∈ after, x.held = true → e.expiry ≤ x.expiry) ∧
        t = { s with
          intake := { s.intake with window := before ++ after, admission := t.intake.admission }
          gates := { s.gates with deferred := t.gates.deferred, tallies := t.gates.tallies }
          watch := t.watch } ∧
        Released s t e))

/-- The echo that a reading in ACTIVE selects among its valid echoes (R80, R81): for LITTER the first
of the smallest surface distances; for GLASS the nearest to the held surface distance, of two the one
with the smaller, where one lies within the track window, and else the lower median. -/
def SelectedInActive (p : Profile) (held : Option Int) (es : List Echo) (e : Echo) : Prop :=
  match p.kind with
  | .litter => ∃ before after, es = before ++ e :: after ∧ (∀ x ∈ before, e.surf < x.surf) ∧
      ∀ x ∈ after, e.surf ≤ x.surf
  | .glass => e ∈ es ∧
      (∀ h, held = some h → (∃ x ∈ es, (x.surf - h).natAbs ≤ p.track) →
        ∀ x ∈ es, (e.surf - h).natAbs < (x.surf - h).natAbs ∨
          ((e.surf - h).natAbs = (x.surf - h).natAbs ∧ e.surf ≤ x.surf)) ∧
      ((∀ h, held = some h → ∀ x ∈ es, p.track < (x.surf - h).natAbs) →
        (es.filter fun x => decide (x.surf < e.surf)).length ≤ (es.length - 1) / 2 ∧
        (es.length - 1) / 2 < (es.filter fun x => decide (x.surf ≤ e.surf)).length)

/-- The valid echoes of a READING payload over a profile and an offset (R76 to R79). -/
def echoesUsed (p : Profile) (offset : Int) (payload : List Byte) : List Echo :=
  validEchoes p offset
    (correctedEchoes (soundSpeed (chosenTemp p (tempOf payload)).1) (echoesOf payload))

/-- A record with the fields that every applied frame writes taken from another (R38). -/
def writtenAs (a r : Assigned) : Assigned :=
  { a with lastCount := r.lastCount, lastHeard := r.lastHeard, battery := r.battery,
           batteryLow := r.batteryLow, lid := r.lid }

/-- A completion is that of a reading's own effect, besides the events of R38 before it. -/
def CompletesAs (c own : Completion) : Prop :=
  c = { own with events := c.events } ∧ ∃ before, c.events = before ++ own.events ∧
    ∀ x ∈ before, x.1 = .gap ∨ x.1 = .lid ∨ x.1 = .lowBattery

/-- The reported fill of a record that holds F16, else 0 (R33). -/
def reportedFill (a : Assigned) : Nat := a.f16.elim 0 fun v => (v + 8) / 16

/-- The request at the head of the management queue is of an operation, and passes its checks. -/
def Passes (s : State) (r : Request) (op : Operation) : Prop :=
  s.head = some r ∧ r.operation = some op ∧ headCheck s r = none

/-- The state with the head answered: its response is the last of the response list, and the head
has left the queue (R151, R160). -/
def answered (s : State) (r : Request) (x : Result) (frames : List Contents) : State :=
  { s with
    composer := { s.composer with
      responses := s.composer.responses ++
        [{ tag := r.tag, op := r.op, result := x, frames := frames }] }
    management := { s.management with queue := s.management.queue.tail } }

/-- What an applied or timed-out change leaves besides the tables it changes (R104 to R106): the
response is handed on, the request has left the queue, its districts are OPEN and no change is
pending, in-flight counts are as before, and only what the giving of admission places reaches can
differ besides. -/
def Settled (s t : State) (r : Request) (x : Result) (c : Contents) (districts : List Nat) : Prop :=
  t = { answered s r x [c] with
        intake := t.intake, translation := t.translation, bins := t.bins, profiles := t.profiles,
        gates := t.gates, due := t.due, watch := t.watch } ∧
  t.gates.change = none ∧ t.gates.inFlight = s.gates.inFlight ∧
  (∀ d, t.gates.state d = if d ∈ districts then .opened else s.gates.state d) ∧
  t.watch.masks = s.watch.masks ∧ t.intake.lastChain = s.intake.lastChain

/-- Is a bin that is not EMPTY found silent by a sweep (R44)? -/
def UnheardTooLong (s : State) (b : Nat) (a : Assigned) : Prop :=
  a.state ≠ .silent ∧ (∀ e ∈ s.slots, e.frame.bin ≠ b) ∧
    (s.profileOf a.profile).silenceLimit < s.time.seconds - a.lastHeard

/-- The state a bin takes by its calibration entry (R39, R47, R48): its offset and live state. -/
def ByCalibration (learned : Option Int) (a : Assigned) : Prop :=
  match learned with
  | some v => a.state = .active ∧ a.offset = v
  | none => a.state = .learning ∧ a.offset = 0

/-- The dynamic fill state of a record is cleared (R33). -/
def FillCleared (a : Assigned) : Prop :=
  a.f16 = none ∧ a.surface = none ∧ a.anchor = none ∧ a.rate = none ∧ a.dueCrossed = none ∧
    a.fullCrossed = false ∧ a.heaped = false ∧ a.fastFill = false

/-- Two records agree in the dynamic fill state (R33). -/
def SameFill (a b : Assigned) : Prop :=
  a.f16 = b.f16 ∧ a.surface = b.surface ∧ a.anchor = b.anchor ∧ a.rate = b.rate ∧
    a.dueCrossed = b.dueCrossed ∧ a.fullCrossed = b.fullCrossed ∧ a.heaped = b.heaped ∧
    a.fastFill = b.fastFill

/-- Two records agree in what describes the sensor: last frame count, lid and battery (R48). -/
def SameSensor (a b : Assigned) : Prop :=
  a.lastCount = b.lastCount ∧ a.lid = b.lid ∧ a.battery = b.battery ∧ a.batteryLow = b.batteryLow

/-- A bin record with another mapped device entry. -/
def mappedTo (x : BinRecord) (e : Option Nat) : BinRecord := { x with mapped := e }

/-- The requests that alter a table, a mask or a counter, and so ask for the CHANGE set (R164); the
three of credential 0 alone are not among them. -/
def isChange : Operation → Bool
  | .loadPrefix | .clearPrefix | .loadDevice | .clearDevice | .loadBin | .retireBin
  | .clearDistrict | .loadProfile | .loadWatchMask | .resetCounters => true
  | _ => false

/-- The requests that credential 0 alone may make (R164). -/
def isOwners : Operation → Bool
  | .loadAuthority | .storeConfig | .restart => true
  | _ => false

/-- The rows that a request concerns (R28, R29, R31, R46, R50, R51, R53, R110, R123, R140, R142,
R143, R164); what concerns no district concerns row 16. -/
def rowsConcerned (s : State) (r : Request) : Operation → List Nat
  | .loadDevice => s.loadDeviceRows (r.arg16 0) (r.arg16 2)
  | .clearDevice => [s.rowOfEntry (r.arg16 0)]
  | .readDevice => [if r.arg8 0 = 0 then s.rowOfEntry (r.arg16 3) else 16]
  | .loadBin => s.loadBinRows (r.arg16 0) (r.arg8 2)
  | .retireBin | .readBin => [s.rowOfBin (r.arg16 0)]
  | .clearDistrict => [if r.arg8 0 < 16 then r.arg8 0 else 16]
  | .readOutcomes | .readCounters => [if r.arg8 0 < 17 then r.arg8 0 else 16]
  | .requestDueList => r.districts.map fun d => if d < 16 then d else 16
  | .loadWatchMask | .resetCounters =>
      if r.arg8 0 < 17 then [r.arg8 0] else if r.arg8 0 = 0xFF then List.range 17 else [16]
  | _ => [16]

/-- A bin that is not EMPTY has a district (section 6.4). -/
def LiesIn (s : State) (b d : Nat) : Prop := ∃ a, s.assigned b = some a ∧ a.district = d

/-- The districts of a request's gate set (the table of section 6.4). -/
def Gated (s : State) (r : Request) (d : Nat) : Operation → Prop
  | .loadPrefix | .clearPrefix | .loadProfile => d < 16
  | .loadDevice => LiesIn s (r.arg16 2) d ∨ ∃ m, s.device (r.arg16 0) = some m ∧ LiesIn s m.bin d
  | .clearDevice => ∃ m, s.device (r.arg16 0) = some m ∧ LiesIn s m.bin d
  | .loadBin => LiesIn s (r.arg16 0) d ∨ d = r.arg8 2
  | .retireBin => LiesIn s (r.arg16 0) d
  | .clearDistrict => d = r.arg8 0
  | _ => False

/-- What LOAD PREFIX and CLEAR PREFIX change and answer (R26, R27): the entry becomes `seg`. -/
def PrefixSet (s t : State) (r : Request) (x : Contents) (seg : Option Segment) : Prop :=
  x = .prefixWas (s.translation.prefixes.get (r.arg8 0)) ∧
  t.translation.devices = s.translation.devices ∧ t.bins = s.bins ∧ t.profiles = s.profiles ∧
  t.due = s.due ∧
  ∀ p, t.translation.prefixes.get p =
    if p = r.arg8 0 then seg else s.translation.prefixes.get p

/-- What LOAD DEVICE and CLEAR DEVICE change and answer (R28, R29): the entry becomes `m`, and the
backlinks follow. -/
def DeviceSet (s t : State) (r : Request) (x : Contents) (m : Option Mapping) : Prop :=
  x = .deviceWas (s.device (r.arg16 0)) ∧
  t.translation.prefixes = s.translation.prefixes ∧ t.profiles = s.profiles ∧ t.due = s.due ∧
  t.bins.calibration = s.bins.calibration ∧ t.bins.sweepDue = s.bins.sweepDue ∧
  (∀ i, t.device i = if i = r.arg16 0 then m else s.device i) ∧
  ∀ i, t.record i = mappedTo (s.record i)
    (if m.any (fun k => k.bin == i) then some (r.arg16 0)
      else if (s.device (r.arg16 0)).any (fun k => k.bin == i) then none
      else (s.record i).mapped)

/-- What LOAD BIN changes and answers, on an EMPTY bin (R47) and on an assigned one (R48, R49): the
bin is made afresh, reset, or keeps its state. -/
def BinLoaded (s t : State) (r : Request) (x : Contents) (b : Nat) (relearn : Bool)
    (learned : Option Int) : Prop :=
  t.translation = s.translation ∧ t.profiles = s.profiles ∧ t.bins.sweepDue = s.bins.sweepDue ∧
  (∀ i, i ≠ b → t.record i = s.record i ∧ t.learned i = s.learned i) ∧
  (t.record b).mapped = (s.record b).mapped ∧
  ∃ n, t.assigned b = some n ∧
    n.district = r.arg8 2 ∧ n.profile = r.arg8 3 ∧ n.generation = r.arg8 4 ∧
    (s.assigned b = none → FillCleared n ∧ ByCalibration learned n ∧ n.samples = [] ∧
      n.lastCount = none ∧ n.lastHeard = s.time.localMs / 1000 ∧ n.lid = false ∧
      n.battery = none ∧ n.batteryLow = false ∧ (t.record b).unqueued = false ∧
      t.learned b = learned ∧ t.due = s.due ∧
      x = .binLoaded .empty none none none n.state.binState false) ∧
    (∀ a, s.assigned b = some a → (relearn = true ∨ a.profile ≠ r.arg8 3) →
      FillCleared n ∧ ByCalibration learned n ∧ n.samples = [] ∧ SameSensor n a ∧
      n.lastHeard = s.time.localMs / 1000 ∧ (t.record b).unqueued = false ∧
      t.learned b = learned ∧ t.due = s.due.filter (fun e => e.bin != b) ∧
      x = .binLoaded a.state.binState (some a.district) (some a.profile)
        (some a.generation) n.state.binState (s.due.any fun e => e.bin == b)) ∧
    (∀ a, s.assigned b = some a → relearn = false → a.profile = r.arg8 3 →
      SameFill n a ∧ n.state = a.state ∧ n.offset = a.offset ∧ n.samples = a.samples ∧
      SameSensor n a ∧ n.lastHeard = a.lastHeard ∧
      (t.record b).unqueued = (s.record b).unqueued ∧ t.learned b = s.learned b ∧
      t.due = s.due.map (fun e => if e.bin = b ∧ a.district ≠ r.arg8 2 then
        { e with district := r.arg8 2 } else e) ∧
      x = .binLoaded a.state.binState (some a.district) (some a.profile)
        (some a.generation) n.state.binState false)

/-- What RETIRE BIN changes and answers (R50, R52). -/
def BinRetired (s t : State) (r : Request) (x : Contents) (b : Nat) : Prop :=
  x = .binRetired (s.record b).state ((s.assigned b).map (·.district))
    ((s.assigned b).map (·.generation)) (s.record b).mapped (decide (r.arg8 2 % 2 = 1)) ∧
  t.translation.prefixes = s.translation.prefixes ∧ t.profiles = s.profiles ∧
  t.bins.sweepDue = s.bins.sweepDue ∧
  t.due = s.due.filter (fun e => e.bin != b) ∧
  (∀ i, t.record i = if i = b then { mapped := none, unqueued := false, assigned := none }
    else s.record i) ∧
  (∀ i, t.learned i = if i = b ∧ r.arg8 2 % 2 = 1 then none else s.learned i) ∧
  ∀ i, t.device i = if (s.record b).mapped = some i then none else s.device i

/-- What CLEAR DISTRICT changes and answers (R51, R52). -/
def DistrictCleared (s t : State) (r : Request) (x : Contents) (d : Nat) : Prop :=
  x = .districtCleared (s.countBins fun a => a.district == d)
    (s.bins.records.entries.filter fun x =>
      x.2.mapped.isSome && x.2.assigned.any fun a => a.district == d).length ∧
  t.translation.prefixes = s.translation.prefixes ∧ t.profiles = s.profiles ∧
  t.bins.sweepDue = s.bins.sweepDue ∧
  t.due = s.due.filter (fun e => !((s.assigned e.bin).any fun a => a.district == d)) ∧
  (∀ i, t.record i = if (s.assigned i).any (fun a => a.district == d) then
    { mapped := none, unqueued := false, assigned := none } else s.record i) ∧
  (∀ i, t.learned i = if (s.assigned i).any (fun a => a.district == d) ∧ r.arg8 1 % 2 = 1 then
    none else s.learned i) ∧
  (∀ i, (∃ b, (s.record b).mapped = some i ∧
      (s.assigned b).any (fun a => a.district == d) = true) → t.device i = none) ∧
  ∀ i, (∀ b, (s.record b).mapped = some i →
      (s.assigned b).any (fun a => a.district == d) = false) → t.device i = s.device i

/-- What LOAD PROFILE of entry `n` with fields `p` changes and answers (R59, R64 to R66). -/
def ProfileLoaded (s t : State) (x : Contents) (n : Nat) (p : Profile) : Prop :=
  ∃ k reset removals,
    x = .profileLoaded (s.profiles.get n).isSome
      ((s.profiles.get n).any fun old => !sameGeometry old p)
      (decide (p.kind = .glass ∧ 4 < p.weight)) k reset removals ∧
    reset = (if ((s.profiles.get n).any fun old => !sameGeometry old p) then
      s.countBins fun a => a.profile == n else 0) ∧
    removals = (if ((s.profiles.get n).any fun old => !sameGeometry old p) then
      (s.bins.records.entries.filter fun x => x.2.assigned.any (fun a => a.profile == n) &&
        s.due.any fun e => e.bin == x.1).length else 0) ∧
    k = (if p.kind = .glass then min p.weight 4 else p.weight) ∧
    t.translation = s.translation ∧ t.bins.calibration = s.bins.calibration ∧
    t.bins.sweepDue = s.bins.sweepDue ∧
    (∀ i, t.profiles.get i = if i = n then some { p with weight := k } else s.profiles.get i) ∧
    (∀ i, (s.record i).mapped = (t.record i).mapped) ∧
    (((s.profiles.get n).any fun old => !sameGeometry old p) = false →
      t.bins = s.bins ∧ t.due = s.due) ∧
    (((s.profiles.get n).any fun old => !sameGeometry old p) = true →
      t.due = s.due.filter (fun e => !((s.assigned e.bin).any fun a => a.profile == n)) ∧
      ∀ i, (∀ a, s.assigned i = some a → a.profile ≠ n) → t.record i = s.record i) ∧
    ∀ i a, ((s.profiles.get n).any fun old => !sameGeometry old p) = true →
      s.assigned i = some a → a.profile = n →
      (t.record i).unqueued = false ∧ ∃ a', t.assigned i = some a' ∧ FillCleared a' ∧
        ByCalibration (s.learned i) a' ∧ a'.samples = [] ∧ SameSensor a' a ∧
        a'.lastHeard = s.time.localMs / 1000 ∧ a'.district = a.district ∧
        a'.profile = a.profile ∧ a'.generation = a.generation

/-- What a change of a request changes in the tables and answers, whether it is applied at its head
or after a wait (R104); a request that gates nothing makes no such change. -/
def ChangeMade (s t : State) (r : Request) (x : Contents) : Operation → Prop
  | .loadPrefix => PrefixSet s t r x (some { base := r.arg16 1, length := r.arg16 3 })
  | .clearPrefix => PrefixSet s t r x none
  | .loadDevice => DeviceSet s t r x (some { bin := r.arg16 2, generation := r.arg8 4 })
  | .clearDevice => DeviceSet s t r x none
  | .loadBin => BinLoaded s t r x (r.arg16 0) (decide (r.arg8 5 % 2 = 1))
      (if r.arg8 5 % 2 = 1 then none else s.learned (r.arg16 0))
  | .retireBin => BinRetired s t r x (r.arg16 0)
  | .clearDistrict => DistrictCleared s t r x (r.arg8 0)
  | .loadProfile => ∃ p, r.profile = some p ∧ ProfileLoaded s t x (r.arg8 0) p
  | _ => False

/-- A local time in seconds as it is sent: planner seconds modulo 2^32 (R181). -/
def sentTime (s : State) (seconds : Nat) : PlannerTime :=
  BitVec.ofInt 32 ((seconds : Int) + s.time.offset)

/-- The fields that READ BIN reports (R53). -/
def binFields (s : State) (b : Nat) (withCalibration : Bool) (x : BinReport) : Prop :=
  x.mapped = (s.record b).mapped ∧ x.unqueued = (s.record b).unqueued ∧
  x.quality = s.time.quality ∧
  x.dueEntry = (s.due.find? fun e => e.bin == b).map
    (fun e => (sentTime s e.due, e.silent, e.coarse)) ∧
  x.calibration = (if withCalibration then some ((s.learned b).isSome, (s.learned b).getD 0)
    else none) ∧
  (s.assigned b = none → x =
    { state := .empty, district := none, profile := none, generation := none, mapped := x.mapped
      lastCount := none, lastHeard := none, samples := [], offset := none, f16 := none, fill := none
      surface := none, anchor := none, rate := none, dueCrossed := none, fullCrossed := false
      heaped := false, fastFill := false, lid := false, batteryLow := false, unqueued := x.unqueued
      battery := none, quality := x.quality, dueEntry := x.dueEntry
      calibration := x.calibration }) ∧
  ∀ a, s.assigned b = some a → x =
    { state := a.state.binState, district := some a.district, profile := some a.profile
      generation := some a.generation, mapped := x.mapped, lastCount := a.lastCount
      lastHeard := some (sentTime s a.lastHeard), samples := a.samples, offset := some a.offset
      f16 := a.f16, fill := a.f16.map fun v => (v + 8) / 16, surface := a.surface
      anchor := a.anchor.map fun k => (sentTime s k.time, k.f16), rate := a.rate
      dueCrossed := a.dueCrossed.map (sentTime s), fullCrossed := a.fullCrossed
      heaped := a.heaped, fastFill := a.fastFill, lid := a.lid, batteryLow := a.batteryLow
      unqueued := x.unqueued, battery := a.battery, quality := x.quality, dueEntry := x.dueEntry
      calibration := x.calibration }

/-- What READ DEVICE BY SENSOR reports (R31). -/
def sensorFields (s : State) (id : SensorId) (x : SensorReport) : Prop :=
  x.pfx = id.toNat / 16777216 ∧ x.index = id.toNat % 16777216 ∧
  (∀ code row bin, s.translate id = .fault code row bin → x.result = some code) ∧
  (∀ bin district, s.translate id = .found bin district → x.result = none) ∧
  (∀ seg, x.pfx < 64 → s.translation.prefixes.get x.pfx = some seg → x.index < seg.length →
    x.entry = some (seg.base + x.index)) ∧
  ((64 ≤ x.pfx ∨ ∀ seg, s.translation.prefixes.get x.pfx = some seg → seg.length ≤ x.index) →
    x.entry = none) ∧
  x.mapping = x.entry.bind s.device ∧
  x.bin = x.mapping.map fun m =>
    ((s.record m.bin).state, (s.assigned m.bin).map (·.district),
      (s.assigned m.bin).map (·.generation))

/-- Of three copies, one being written (R176, R177): it is as it was where the new protection equals
the old, and else not all three are equal. -/
def HalfWritten (copy old new other1 other2 : ProtectionCopy) : Prop :=
  (old = new → copy = old) ∧ (old ≠ new → ¬ (copy = other1 ∧ other1 = other2))

/-- What READ CONFIG reports (R177). In the part that is being written it reports what a cut would
leave (log entry 24). -/
def configFields (s : State) (x : ConfigReport) : Prop :=
  (x.inForce = s.inForce.settings ∧ x.protection = s.inForce.protection ∧
    x.cause = s.inForce.cause ∧ x.status = s.inForce.status ∧ x.clamps = s.inForce.clamps ∧
    x.timeState = s.time.state ∧ x.localSeconds = s.time.localMs / 1000 ∧
    x.offset = s.time.offset ∧ x.lastBeacon = s.time.lastBeacon ∧
    x.beaconLoss = s.inForce.settings.beaconLoss ∧ x.writing = s.store.writing.isSome ∧
    x.recordPending = s.store.waiting.isSome) ∧
  ((∀ w, s.store.writing = some w → w.point ≠ .block) → x.stored = s.store.settings ∧
    x.checkMatches = decide (s.store.check = crc16 s.store.settings.bytes)) ∧
  (s.store.writing = none → x.copies = [s.store.copy1, s.store.copy2, s.store.copy3]) ∧
  ∀ w, s.store.writing = some w →
    (w.point = .block → x.checkMatches = false ∧
      x.copies = [s.store.copy1, s.store.copy2, s.store.copy3]) ∧
    (w.point = .copy1 → ∃ c, x.copies = [c, s.store.copy2, s.store.copy3] ∧
      HalfWritten c s.store.copy1 w.record.protection s.store.copy2 s.store.copy3) ∧
    (w.point = .copy2 → ∃ c, x.copies = [s.store.copy1, c, s.store.copy3] ∧
      HalfWritten c s.store.copy2 w.record.protection s.store.copy1 s.store.copy3) ∧
    (w.point = .copy3 → ∃ c, x.copies = [s.store.copy1, s.store.copy2, c] ∧
      HalfWritten c s.store.copy3 w.record.protection s.store.copy1 s.store.copy2)

/-- A setting by its name. -/
def settingOf (v : Settings) : Setting → Nat
  | .mergeWindow => v.mergeWindow
  | .sweepInterval => v.sweepInterval
  | .dueHorizon => v.dueHorizon
  | .changeWait => v.changeWait
  | .noticeHold => v.noticeHold
  | .summaryInterval => v.summaryInterval
  | .beaconLoss => v.beaconLoss
  | .credentials => v.credentials

/-- What a start makes of a stored setting (R174): raised to the low limit, lowered to the high
limit, and the merge window rounded down to a multiple of 250. -/
def putInRange : Setting → Nat → Nat
  | .mergeWindow, n => min 8000 n / 250 * 250
  | .sweepInterval, n => max 60 (min 3600 n)
  | .dueHorizon, n => max 1 (min 30 n)
  | .changeWait, n => max 1 (min 60 n)
  | .noticeHold, n => min 10000 n
  | .summaryInterval, n => max 60 (min 3600 n)
  | .beaconLoss, n => max 60 (min 3600 n)
  | .credentials, n => max 1 (min 8 n)

/-- The offset of a setting in the argument block of STORE CONFIG (12.3). -/
def settingAt : Setting → Nat
  | .mergeWindow => 0
  | .sweepInterval => 2
  | .dueHorizon => 4
  | .changeWait => 6
  | .noticeHold => 8
  | .summaryInterval => 10
  | .beaconLoss => 12
  | .credentials => 14

/-- A clamp list names exactly the settings that a start adjusts, each once (R174, R176). -/
def NamesAdjusted (clamps : List Setting) (v : Settings) : Prop :=
  clamps.Nodup ∧ ∀ x, x ∈ clamps ↔ putInRange x (settingOf v x) ≠ settingOf v x

/-- The commands that can alter the translation tables, the profile table or a record's assignment:
the changes, their application, and power-on. -/
def altersTables : Instr → Bool
  | .loadPrefix | .clearPrefix | .loadDevice | .clearDevice | .loadBin | .retireBin
  | .clearDistrict | .loadProfile | .changeApplication | .powerOn => true
  | _ => false

end Sys2Proof.Statements

open Sys2Proof.Statements

/-! ### Steps and frames -/

/-- A step takes the command at the front of the queue (no rule of the manual: the block's queue). -/
def Obligations.StepTakesTheFrontCommand : Prop :=
  ∀ (c : Instr) (rest : List Instr) (s : State),
    step { s with pending := c :: rest } = exec c { s with pending := rest }

/-- What a step does while no command waits: the model's choice (log entry 1). With nothing of its
own to do and no store write under way, local time rises by one millisecond (R171). -/
def Obligations.IdleStepTakesItsOwnStepOrTicks : Prop :=
  ∀ s : State, s.pending = [] →
    (∀ c, s.ownStep = some c → step s = exec c s) ∧
    (s.ownStep = none → s.phase ≠ .off → s.store.writing = none →
      step s = .next { s with time := { s.time with localMs := s.time.localMs + 1 } })

/-- Every command answers a next state, and none of them touches the commands that wait. That it also
does so where its event cannot occur is the model's choice (log entry 3). -/
def Obligations.EveryCommandCompletesAndKeepsTheQueue : Prop :=
  ∀ (c : Instr) (s : State), ∃ t, exec c s = .next t ∧ t.pending = s.pending

/-- A command that arrives on the planner link is read back from the bytes of its frame (R146, R147,
R148, 12.2). -/
def Obligations.InboundFramesReadBack : Prop :=
  ∀ (c : Instr) (bytes : List Byte), c.wellFormed = true → commandFrame c = some bytes →
    frameCommand bytes = c

/-- INBOUND_FRAME_DISCARDED (R147): the five checks in their order, and the one MALFORMED event in
row 16 whose value is 0x30 with the detail. -/
def Obligations.DiscardedFrameRaisesMalformed : Prop :=
  (∀ bytes : List Byte, linkFault bytes =
    if bytes.length < 5 then some .short
    else if word16At bytes (bytes.length - 2) ≠ (crc16 (bytes.take (bytes.length - 2))).toNat then
      some .check
    else if word16At bytes 1 ≠ bytes.length - 5 then some .length
    else if byteAt bytes 0 < 0x10 ∨ 0x13 < byteAt bytes 0 then some .kind
    else if byteAt bytes 0 = 0x11 ∧ bytes.length ≠ 9 then some .length
    else if 0x12 ≤ byteAt bytes 0 ∧ bytes.length ≠ 5 then some .length
    else none) ∧
  [LinkDetail.short, .check, .length, .kind, .unanswered].map LinkDetail.num = [1, 2, 3, 4, 5] ∧
  ∀ (bytes : List Byte) (d : LinkDetail) (s : State), s.phase = .running →
    linkFault bytes = some d →
    exec (.inboundFrameDiscarded bytes) s = .next { s with
      watch := s.watch.takeGroup s.time
        [{ cls := .malformed, row := 16, bin := none, origin := none,
           value := ((0x30 * 256 + d.num : Nat) : Int) }] }

/-! ### Intake and merging -/

/-- The port takes the frame of the first offering chain after the last chain taken, counting upward
and wrapping from 3 to 0 (R1). -/
def Obligations.PortServesChainsRoundRobin : Prop :=
  ∀ (last : Nat) (offers : List (Option ChainFrame)),
    (∀ c f, chooseChain last offers = some (c, f) →
      ∃ i, 1 ≤ i ∧ i ≤ 4 ∧ c = (last + i) % 4 ∧ offers.getD c none = some f ∧
        ∀ j, 1 ≤ j → j < i → offers.getD ((last + j) % 4) none = none) ∧
    (chooseChain last offers = none → ∀ c, c < 4 → offers.getD c none = none)

/-- A well-formed frame merges into the entry of its key, or opens one (R7, R8); with a window length
of 0 the new entry expires at once. -/
def Obligations.CopyMergesOrOpensAnEntry : Prop :=
  ∀ (s : State) (c0 c1 c2 c3 : Option ChainFrame) (chain : Nat) (f : ChainFrame) (p : List Byte),
    s.Canonical →
    Takes s c0 c1 c2 c3 chain f → p = f.bytes.take f.length.toNat → formFault f.radio p = none →
    (∀ before e after, s.intake.window = before ++ e :: after → s.KeysDistinct →
      e.sensor = sensorOf p → e.count = countOf p →
      exec (.intakeFrameTake c0 c1 c2 c3) s = .next { s with intake := { s.intake with
        lastChain := chain
        window := before ++ (if e.quality < f.quality.toNat then
          { e with quality := f.quality.toNat, payload := p } else e) :: after } }) ∧
    (NewKey s p → s.intake.window.length < 64 → 0 < s.inForce.settings.mergeWindow →
      exec (.intakeFrameTake c0 c1 c2 c3) s = .next { s with intake := { s.intake with
        lastChain := chain
        window := s.intake.window ++ [opened s f.quality.toNat p] } }) ∧
    (NewKey s p → s.intake.window.length < 64 → s.inForce.settings.mergeWindow = 0 →
      ((16 ≤ s.intake.admission.length ∨ s.openDeferred.isSome = true) →
        exec (.intakeFrameTake c0 c1 c2 c3) s = .next { s with intake := { s.intake with
          lastChain := chain
          window := s.intake.window ++ [{ opened s f.quality.toNat p with held := true }] } }) ∧
      (s.intake.admission.length < 16 → s.openDeferred = none →
        ∃ t, exec (.intakeFrameTake c0 c1 c2 c3) s = .next t ∧
          t = { s with
            intake := { s.intake with lastChain := chain, admission := t.intake.admission }
            gates := { s.gates with deferred := t.gates.deferred, tallies := t.gates.tallies }
            watch := t.watch } ∧
          Released s t (opened s f.quality.toNat p)))

/-- The form checks (R3), and what a frame that fails one ends with (R4): FORMAT in row 16, the
merge window and every record as they were. -/
def Obligations.FormChecksAndTheirFailure : Prop :=
  (∀ (radio : Byte) (p : List Byte), formFault radio p =
    if radio.getLsbD 0 = false then some .radioCheck
    else if p.length < 7 then some .length
    else if byteAt p 6 < 1 ∨ 3 < byteAt p 6 then some .badKind
    else if byteAt p 6 = 1 ∧ p.length < 8 then some .length
    else if byteAt p 6 = 1 ∧ 4 < byteAt p 7 then some .echoCount
    else if p.length ≠ (if byteAt p 6 = 1 then 13 + 2 * byteAt p 7 else 10) then some .length
    else none) ∧
  [FormDetail.radioCheck, .length, .badKind, .echoCount].map FormDetail.num = [1, 2, 3, 4] ∧
  ∀ (s : State) (c0 c1 c2 c3 : Option ChainFrame) (chain : Nat) (f : ChainFrame) (p : List Byte)
    (d : FormDetail), s.Canonical →
    Takes s c0 c1 c2 c3 chain f → p = f.bytes.take f.length.toNat → formFault f.radio p = some d →
    ∃ t, exec (.intakeFrameTake c0 c1 c2 c3) s = .next t ∧
      t = { s with
        intake := { s.intake with lastChain := chain }
        gates := { s.gates with tallies := t.gates.tallies }
        watch := t.watch } ∧
      Ends s t 16 .format
        { cls := .malformed, row := 16, bin := none,
          origin := if 6 ≤ p.length then some (sensorOf p, countOf p) else none,
          value := ((0x10 * 256 + d.num : Nat) : Int) }

/-- A new key that meets a full window (R9): the frame ends INTAKE_FULL where admission cannot
receive the oldest entry; otherwise that entry is released early and the frame opens its own. -/
def Obligations.FullWindowReleasesEarlyOrRefuses : Prop :=
  ∀ (s : State) (c0 c1 c2 c3 : Option ChainFrame) (chain : Nat) (f : ChainFrame) (p : List Byte)
    (oldest : MergeEntry) (rest : List MergeEntry), s.Canonical → s.KeysDistinct →
    Takes s c0 c1 c2 c3 chain f → p = f.bytes.take f.length.toNat → formFault f.radio p = none →
    NewKey s p → s.intake.window = oldest :: rest → rest.length = 63 →
    ((16 ≤ s.intake.admission.length ∨ s.openDeferred.isSome = true) →
      ∃ t, exec (.intakeFrameTake c0 c1 c2 c3) s = .next t ∧
        t = { s with
          intake := { s.intake with lastChain := chain }
          gates := { s.gates with tallies := t.gates.tallies }
          watch := t.watch } ∧
        Ends s t 16 .intakeFull (outcomeEvent .overrun 16 none p .intakeFull)) ∧
    (s.intake.admission.length < 16 → s.openDeferred = none →
      0 < s.inForce.settings.mergeWindow →
      ∃ t, exec (.intakeFrameTake c0 c1 c2 c3) s = .next t ∧
        t = { s with
          intake := { s.intake with
            lastChain := chain
            window := rest ++ [opened s f.quality.toNat p]
            admission := t.intake.admission }
          gates := { s.gates with deferred := t.gates.deferred, tallies := t.gates.tallies }
          watch := t.watch } ∧
        Released s t oldest) ∧
    (s.intake.admission.length < 16 → s.openDeferred = none →
      s.inForce.settings.mergeWindow = 0 →
      ∃ m t, exec (.intakeFrameTake c0 c1 c2 c3) s = .next t ∧
        m = { s with
          intake := { s.intake with admission := m.intake.admission }
          gates := { s.gates with deferred := m.gates.deferred, tallies := m.gates.tallies }
          watch := m.watch } ∧
        Released s m oldest ∧
        ((16 ≤ m.intake.admission.length ∨ m.openDeferred.isSome = true) →
          t = { m with intake := { m.intake with
            lastChain := chain
            window := rest ++ [{ opened s f.quality.toNat p with held := true }] } }) ∧
        (m.intake.admission.length < 16 → m.openDeferred = none →
          t = { m with
            intake := { lastChain := chain, window := rest, admission := t.intake.admission }
            gates := { m.gates with deferred := t.gates.deferred, tallies := t.gates.tallies }
            watch := t.watch } ∧
          Released m t (opened s f.quality.toNat p)))

/-- MERGE_ENTRY_EXPIRY (R10): the entry is released where admission can receive it, otherwise it is
held in the window. -/
def Obligations.ExpiringEntryIsReleasedOrHeld : Prop :=
  ∀ (s : State) (before after : List MergeEntry) (e : MergeEntry), s.Canonical → s.KeysDistinct →
    s.phase = .running → s.intake.window = before ++ e :: after → e.expiry ≤ s.time.localMs →
    e.held = false →
    ((16 ≤ s.intake.admission.length ∨ s.openDeferred.isSome = true) →
      exec (.mergeEntryExpiry e.sensor e.count) s = .next { s with intake := { s.intake with
        window := before ++ { e with held := true } :: after } }) ∧
    (s.intake.admission.length < 16 → s.openDeferred = none →
      ∃ t, exec (.mergeEntryExpiry e.sensor e.count) s = .next t ∧
        t = { s with
          intake := { s.intake with window := before ++ after, admission := t.intake.admission }
          gates := { s.gates with deferred := t.gates.deferred, tallies := t.gates.tallies }
          watch := t.watch } ∧
        Released s t e)

/-- The six tests of translation in their order, with the row and the bin of each fault's event
(R21, R23). -/
def Obligations.TranslationMakesItsTestsInOrder : Prop :=
  ∀ (s : State) (id : SensorId) (p i : Nat), p = id.toNat / 16777216 → i = id.toNat % 16777216 →
    (64 ≤ p → s.translate id = .fault .prefixRange 16 none) ∧
    (p < 64 → s.translation.prefixes.get p = none →
      s.translate id = .fault .prefixInvalid 16 none) ∧
    (∀ seg, p < 64 → s.translation.prefixes.get p = some seg →
      (seg.length ≤ i → s.translate id = .fault .deviceRange 16 none) ∧
      (i < seg.length → s.device (seg.base + i) = none →
        s.translate id = .fault .deviceInvalid 16 none) ∧
      ∀ m, i < seg.length → s.device (seg.base + i) = some m →
        (s.assigned m.bin = none → s.translate id = .fault .binEmpty 16 none) ∧
        ∀ a, s.assigned m.bin = some a →
          s.translate id =
            if m.generation = 0 ∨ m.generation = a.generation then .found m.bin a.district
            else .fault .generation a.district (some m.bin))

/-- ADMISSION_PLACE_GRANT (R15): the first place goes to the earliest deferred frame of an OPEN
district, else to the held entry of the earliest expiry; the test is made again after each, and the
grant stops only when no place is free or no candidate waits. Nothing joins a full queue. That one
command takes in every such grant is log entry 11. -/
def Obligations.AdmissionPlacesAreGivenUntilNoneIsLeft : Prop :=
  ∀ s : State, s.phase = .running →
    ∃ t, exec .admissionPlaceGrant s = .next t ∧
      t = { s with
        intake := { s.intake with window := t.intake.window, admission := t.intake.admission }
        gates := { s.gates with deferred := t.gates.deferred, tallies := t.gates.tallies }
        watch := { s.watch with counters := t.watch.counters, notices := t.watch.notices } } ∧
      (16 ≤ t.intake.admission.length ∨
        (t.openDeferred = none ∧ ∀ e ∈ t.intake.window, e.held = false)) ∧
      (s.intake.admission.length ≤ 16 → t.intake.admission.length ≤ 16) ∧
      (∀ d, s.intake.admission.length < 16 → s.openDeferred = some d →
        ∃ more, t.intake.admission = s.intake.admission ++ d.frame :: more) ∧
      (∀ e bin district, s.intake.admission.length < 16 → s.openDeferred = none →
        firstHeld s.intake.window = some e →
        s.translate (sensorOf e.payload) = .found bin district →
        s.gates.state district = .opened →
        ∃ more, t.intake.admission = s.intake.admission ++
          { payload := e.payload, bin := bin, arrival := e.openedAt / 1000 } :: more) ∧
      (s.Canonical → s.KeysDistinct → Relation.ReflTransGen PlaceGiven s t)

/-! ### Estimates -/

/-- ESTIMATE_START on a frame that is accepted (R13, R36, R71): the oldest frame whose bin is not in
flight takes a slot, its district's in-flight count rises, and a gap is noted. -/
def Obligations.AcceptedFrameTakesASlot : Prop :=
  ∀ (s : State) (before after : List Frame) (f : Frame) (a : Assigned) (gap : Option Nat),
    s.phase = .running → s.slots.length < 4 → s.intake.admission = before ++ f :: after →
    (∀ g ∈ before, ∃ e ∈ s.slots, e.frame.bin = g.bin) → (∀ e ∈ s.slots, e.frame.bin ≠ f.bin) →
    s.assigned f.bin = some a →
    ((kindOf f.payload = some .install ∧ gap = none) ∨
      (kindOf f.payload ≠ some .install ∧ a.lastCount = none ∧ gap = none) ∨
      ∃ l, kindOf f.payload ≠ some .install ∧ a.lastCount = some l ∧
        1 ≤ (countOf f.payload - l).toNat ∧ (countOf f.payload - l).toNat ≤ 32767 ∧
        gap = if (countOf f.payload - l).toNat = 1 then none
          else some ((countOf f.payload - l).toNat - 1)) →
    exec .estimateStart s = .next { s with
      intake := { s.intake with admission := before ++ after }
      slots := s.slots ++ [{ frame := f, district := a.district, gap := gap }]
      gates := s.gates.setCount a.district (s.gates.count a.district + 1) }

/-- ESTIMATE_START on a frame that is suppressed (R35, R36, R37): the records, the slots and the
in-flight counts are left as they were. -/
def Obligations.SuppressedFrameLeavesTheRecord : Prop :=
  ∀ (s : State) (before after : List Frame) (f : Frame), s.Canonical →
    s.phase = .running → s.slots.length < 4 → s.intake.admission = before ++ f :: after →
    (∀ g ∈ before, ∃ e ∈ s.slots, e.frame.bin = g.bin) → (∀ e ∈ s.slots, e.frame.bin ≠ f.bin) →
    ∃ t, exec .estimateStart s = .next t ∧
      (s.assigned f.bin = none →
        Ends s t 16 .binEmpty (outcomeEvent .unmapped 16 none f.payload .binEmpty)) ∧
      (∀ a l, s.assigned f.bin = some a → kindOf f.payload ≠ some .install →
        a.lastCount = some l →
        ((countOf f.payload = l → Ends s t a.district .duplicate
            (outcomeEvent .repeated a.district (some f.bin) f.payload .duplicate)) ∧
          (32768 ≤ (countOf f.payload - l).toNat → Ends s t a.district .stale
            (outcomeEvent .repeated a.district (some f.bin) f.payload .stale)))) ∧
      ((s.assigned f.bin = none ∨ ∃ a l, s.assigned f.bin = some a ∧
          kindOf f.payload ≠ some .install ∧ a.lastCount = some l ∧
          (countOf f.payload = l ∨ 32768 ≤ (countOf f.payload - l).toNat)) →
        t = { s with
          intake := { s.intake with admission := before ++ after }
          gates := { s.gates with tallies := t.gates.tallies }
          watch := t.watch })

/-- ESTIMATE_COMPLETION (R72, R75, R93, R99): the record and the calibration entry of its bin are
written as the arithmetic gives them, no other bin's assignment changes, the due queue and the
unqueued flags are as the clear silent and the due update leave them, the slot is free, the in-flight
count falls, the outcome APPLIED, or FLAGGED with each detail, is tallied, and the events go to the
watch unit as one group, all in the row of the estimate's district. The record is read at completion
(log entry 18). -/
def Obligations.CompletionWritesItsBinAndFreesItsSlot : Prop :=
  ∀ (s : State) (e : Estimate) (a : Assigned) (c : Completion), s.Canonical → s.InFlightSound →
    s.phase = .running → e ∈ s.slots → s.assigned e.frame.bin = some a →
    c = completion (s.profileOf a.profile)
      { freeRun := decide (s.time.state = .freeRun),
        horizon := s.inForce.settings.dueHorizon * 86400 }
      e.frame.payload e.frame.arrival e.gap a (s.learned e.frame.bin) →
    ∃ t, exec (.estimateCompletion e.frame.bin) s = .next t ∧
      t = { s with bins := t.bins, slots := t.slots, gates := t.gates, due := t.due,
                   watch := t.watch } ∧
      (∀ b, t.assigned b = if b = e.frame.bin then some c.record else s.assigned b) ∧
      (∀ b, t.learned b = if b = e.frame.bin then c.learned else s.learned b) ∧
      (∀ b, (t.record b).mapped = (s.record b).mapped) ∧
      t.slots = s.slots.filter (fun x => x.frame.bin != e.frame.bin) ∧
      (∀ d, t.gates.count d = if d = e.district then s.gates.count d - 1 else s.gates.count d) ∧
      t.gates.deferred = s.gates.deferred ∧ t.gates.states = s.gates.states ∧
      t.gates.change = s.gates.change ∧
      (∀ r k, k < 18 → t.gates.tally r k = s.gates.tally r k + BitVec.ofNat 32
        (if r = e.district then
          (if k = (if c.details = [] then 0 else 1) then 1 else 0) +
            c.details.countP (fun x => x.place == k)
        else 0)) ∧
      t.bins.sweepDue = s.bins.sweepDue ∧
      (∀ u, u = (if c.clearSilent then s.handSilent e.frame.bin false else s).handDue e.frame.bin
          e.district c.due →
        t.due = u.due ∧ ∀ b, (t.record b).unqueued = (u.record b).unqueued) ∧
      t.watch = s.watch.takeGroup s.time (c.events.map fun x =>
        { cls := x.1, row := e.district, bin := some e.frame.bin,
          origin := some (sensorOf e.frame.payload, countOf e.frame.payload), value := x.2 })

/-- What every applied frame writes (R38), with its events first in the group (R94); how it takes a
bin out of SILENT before its own effect (R39); and the frames that add no fill: a STATUS frame (R40),
an INSTALL frame (R42) and a BLIND reading (R83). `st`, `off` and `smp` are the state, offset and
samples that R39 leaves. -/
def Obligations.StatusInstallAndBlindFramesAddNoFill : Prop :=
  ∀ (p : Profile) (env : Surroundings) (payload : List Byte) (arrival : Nat) (gap : Option Nat)
    (a : Assigned) (learned : Option Int) (c : Completion) (st : LiveState) (off : Int)
    (smp : List Nat),
    c = completion p env payload arrival gap a learned →
    (a.state ≠ .silent → st = a.state ∧ off = a.offset ∧ smp = a.samples) →
    (a.state = .silent → smp = [] ∧
      (∀ v, learned = some v → st = .active ∧ off = v) ∧
      (learned = none → st = .learning ∧ off = 0)) →
    (c.record.lastCount = some (countOf payload) ∧ c.record.lastHeard = max a.lastHeard arrival ∧
      c.record.lid = decide (lidOf payload ≠ 0) ∧
      c.record.battery = (batteryOf payload).or a.battery ∧
      (batteryOf payload = none → c.record.batteryLow = a.batteryLow) ∧
      (∀ v, batteryOf payload = some v → c.record.batteryLow =
        if v < p.batteryLimit then true else if p.batteryLimit + 100 < v then false
        else a.batteryLow) ∧
      c.record.district = a.district ∧ c.record.profile = a.profile ∧
      c.record.generation = a.generation) ∧
    c.clearSilent = decide (a.state = .silent) ∧
    c = { completion p env payload arrival gap { a with state := st, offset := off, samples := smp }
            learned with clearSilent := decide (a.state = .silent) } ∧
    (∃ rest, c.events = List.flatten
        [ gap.toList.map fun g => (WatchClass.gap, (g : Int)),
          if a.lid = false ∧ c.record.lid = true then [(.lid, (lidOf payload : Int))] else [],
          if a.batteryLow = false ∧ c.record.batteryLow = true then
            [(.lowBattery, (((batteryOf payload).getD 0 : Nat) : Int))] else [],
          rest ] ∧
      (kindOf payload ≠ some .reading → rest = [])) ∧
    (kindOf payload = some .status → SameFill c.record a ∧ c.record.samples = smp ∧
      c.record.state = st ∧ c.record.offset = off ∧ c.learned = learned ∧
      c.due = .nothing ∧ c.details = []) ∧
    (kindOf payload = some .install → FillCleared c.record ∧ c.record.samples = [] ∧
      c.record.state = .learning ∧ c.record.offset = 0 ∧ c.learned = none ∧ c.due = .removal ∧
      c.details = []) ∧
    (kindOf payload = some .reading →
      echoesUsed p (if st = .learning then 0 else off) payload = [] →
      SameFill c.record a ∧ c.record.samples = smp ∧ c.record.state = st ∧
        c.record.offset = off ∧ c.learned = learned ∧ c.due = .nothing ∧
        c.details = .blind :: (if (chosenTemp p (tempOf payload)).2 then [.tempClamped] else []) ∧
        (WatchClass.blind, (reportedFill a : Int)) ∈ c.events)

/-- Stage 1 (R78): the correction term rounds 606 × T10 / 1000 to nearest with halves away from zero,
the corrected distance rounds to the nearest millimetre, and it lies in 0..4,455. -/
def Obligations.CorrectedDistanceFollowsTheSpeedOfSound : Prop :=
  (∀ T : Int, 0 ≤ T →
    1000 * soundCorrection T ≤ 606 * T + 500 ∧ 606 * T + 500 < 1000 * soundCorrection T + 1000 ∧
      soundCorrection (-T) = -soundCorrection T) ∧
  (∀ (T : Int) (raw : Nat), -400 ≤ T → T ≤ 700 → raw ≤ 4094 →
    (soundSpeed T : Int) = 3313 + soundCorrection T ∧
    correctedDistance (soundSpeed T) raw = (raw * soundSpeed T + 1717) / 3434 ∧
    correctedDistance (soundSpeed T) raw ≤ 4455) ∧
  (soundSpeed (-400) = 3071 ∧ correctedDistance 3071 1000 = 894) ∧
  (soundSpeed 0 = 3313 ∧ correctedDistance 3313 1000 = 965) ∧
  (soundSpeed 200 = 3434 ∧ correctedDistance 3434 1000 = 1000) ∧
  (soundSpeed 700 = 3737 ∧ correctedDistance 3737 1000 = 1088)

/-- Stage 4 (R84): the fill of a surface distance, over a profile whose fields are in range. -/
def Obligations.FillFollowsTheBreakpoints : Prop :=
  ∀ (p : Profile) (s : Int), p.inRange = true →
    (s ≤ p.mouth → mapFill p s = 1000) ∧ ((p.depth : Int) ≤ s → mapFill p s = 0) ∧
    mapFill p s ≤ 1000 ∧
    ∀ (pre post : List (Nat × Nat)) (d0 f0 d1 f1 x : Nat),
      p.points = pre ++ (d0, f0) :: (d1, f1) :: post → d0 ≤ x → x < d1 →
      mapFill p x = f0 - ((f0 - f1) * (x - d0) + (d1 - d0) / 2) / (d1 - d0) ∧
      f1 ≤ mapFill p x ∧ mapFill p x ≤ f0

/-- Stage 5 without a collection (R88): F16 is set where it was absent, else it moves toward the
sample without passing it, the whole way for weight 8. -/
def Obligations.SmoothingMovesTowardTheSample : Prop :=
  ∀ (p : Profile) (fill f16 new : Nat), p.weight ≤ 8 → new = smoothed p fill (some f16) →
    smoothed p fill none = fill * 16 ∧
    (f16 ≤ fill * 16 → f16 ≤ new ∧ new ≤ fill * 16) ∧
    (fill * 16 ≤ f16 → fill * 16 ≤ new ∧ new ≤ f16) ∧
    (p.weight = 8 → new = fill * 16) ∧
    (f16 ≤ fill * 16 → new = f16 + (fill * 16 - f16) * p.weight / 8) ∧
    (fill * 16 ≤ f16 → new = f16 - (f16 - fill * 16) * p.weight / 8)

/-- A READING in ACTIVE: the temperature it uses (R77), which of its echoes are valid (R79), the echo
it selects (R80, R81), the heaped flag (R85), and, where it is a collection, the fill, the anchor and
the rate that start again, the crossed flags tested afresh (R86), and the short calibration, which
moves the offset by at most 8 mm where the floor is seen and raises CAL_LIMIT where a clamp acts
(R87). -/
def Obligations.CollectionStartsTheFillAgain : Prop :=
  (∀ (p : Profile) (raw : Int), chosenTemp p raw =
    if raw = -32768 then (p.defaultTemp, false)
    else (max (-400) (min 700 raw), decide (raw < -400 ∨ 700 < raw))) ∧
  (∀ (p : Profile) (offset : Int) (d : Nat), validEcho p offset d =
    if d < 50 ∨ (p.depth : Int) + 100 < d - offset ∨
        (p.kind = .glass ∧ (d : Int) - offset < p.mouth) then none
    else some { corr := d, surf := if p.kind = .litter then max (d - offset) 0 else d - offset }) ∧
  (∀ (p : Profile) (held : Option Int) (es : List Echo),
    (es = [] ↔ selectActive p held es = none) ∧
    ∀ e, selectActive p held es = some e → SelectedInActive p held es e) ∧
  (∀ (p : Profile) (env : Surroundings) (payload : List Byte) (arrival : Nat) (gap : Option Nat)
      (a : Assigned) (learned : Option Int) (e : Echo) (c : Completion),
    a.state = .active → kindOf payload = some .reading →
    selectActive p a.surface (echoesUsed p a.offset payload) = some e →
    c = completion p env payload arrival gap a learned →
    CompletesAs c (activeReading p env e (chosenTemp p (tempOf payload)).2 arrival
      (writtenAs a c.record) learned)) ∧
  ∀ (p : Profile) (env : Surroundings) (e : Echo) (clamped : Bool) (arrival : Nat)
    (a : Assigned) (learned : Option Int) (c : Completion),
    c = activeReading p env e clamped arrival a learned →
    c.record.surface = some e.surf ∧
    c.record.heaped = decide (p.kind = .litter ∧ e.surf < p.mouth) ∧
    (.tempClamped ∈ c.details ↔ clamped = true) ∧
    (.heaped ∈ c.details ↔ c.record.heaped = true) ∧ .blind ∉ c.details ∧
    (∀ v, (WatchClass.heaped, v) ∈ c.events ↔
      a.heaped = false ∧ c.record.heaped = true ∧ v = (reportedFill c.record : Int)) ∧
    ∀ (f16 fill : Nat), p.inRange = true → a.f16 = some f16 → fill = mapFill p e.surf →
      fill + p.drop ≤ (f16 + 8) / 16 →
      c.record.f16 = some (fill * 16) ∧
      c.record.anchor = some { time := arrival, f16 := fill * 16 } ∧
      c.record.rate = none ∧ c.record.fastFill = a.fastFill ∧
      c.record.dueCrossed = (if p.dueAt ≤ fill then some arrival else none) ∧
      c.record.fullCrossed = decide (p.fullAt ≤ fill) ∧
      (WatchClass.collected, (fill : Int)) ∈ c.events ∧
      (e.surf < p.depth - 100 → c.record.offset = a.offset ∧ c.learned = learned ∧
        .calLimit ∉ c.details) ∧
      ∀ k step : Int, k = (e.corr : Int) - p.depth - a.offset → step = max (-8) (min 8 k) →
        (p.depth : Int) - 100 ≤ e.surf →
        c.learned = some c.record.offset ∧
        c.record.offset = max (-120) (min 120 (a.offset + step)) ∧
        (.calLimit ∈ c.details ↔ step ≠ k ∨ c.record.offset ≠ a.offset + step) ∧
        (∀ v, (WatchClass.calLimit, v) ∈ c.events ↔
          (step ≠ k ∨ c.record.offset ≠ a.offset + step) ∧ v = k)

/-- Stage 6: the rate and the anchor (R89), the thresholds with their hysteresis and events (R90), on
a reading that is no collection, whose F16 is smoothed or first set (R88); and the due update (R91):
at the crossed-at time, after the interval that the remaining fill and the rate give (a sixteenth less
in FREE-RUN), or none beyond the horizon. -/
def Obligations.DueUpdateFollowsTheRate : Prop :=
  (∀ (p : Profile) (env : Surroundings) (arrival : Nat) (a : Assigned),
    (∀ t, a.dueCrossed = some t → dueUpdate p env arrival a = .prediction t true false) ∧
    (a.dueCrossed = none → (a.rate = none ∨ a.rate = some 0) →
      dueUpdate p env arrival a = .removal) ∧
    (∀ r f n, a.dueCrossed = none → a.rate = some r → 0 < r → a.f16 = some f →
      n = (p.dueAt * 16 - f) * 86400 / (16 * r) - (if env.freeRun then
        (p.dueAt * 16 - f) * 86400 / (16 * r) / 16 else 0) →
      dueUpdate p env arrival a =
        if n ≤ env.horizon then .prediction (arrival + n) false env.freeRun else .removal)) ∧
  ∀ (p : Profile) (env : Surroundings) (e : Echo) (clamped : Bool) (arrival fill new fillNow : Nat)
    (a : Assigned) (learned : Option Int) (c : Completion),
    p.inRange = true → fill = mapFill p e.surf →
    (∀ f, a.f16 = some f → (f + 8) / 16 < fill + p.drop) →
    c = activeReading p env e clamped arrival a learned →
    new = smoothed p fill a.f16 → fillNow = (new + 8) / 16 →
    c.record.f16 = some new ∧ c.record.offset = a.offset ∧ c.learned = learned ∧
    c.due = dueUpdate p env arrival c.record ∧
    (a.f16 = none → c.record.anchor = some { time := arrival, f16 := new } ∧
      c.record.rate = a.rate ∧ c.record.fastFill = a.fastFill) ∧
    (∀ f k, a.f16 = some f → a.anchor = some k →
      (arrival - k.time < p.minSpan → c.record.rate = a.rate ∧ c.record.fastFill = a.fastFill) ∧
      (p.minSpan ≤ arrival - k.time → ∃ r, c.record.rate = some r ∧
        r = min 2000 ((new - k.f16) * 86400 / (16 * (arrival - k.time))) ∧
        c.record.fastFill = decide (0 < p.fastLimit ∧ p.fastLimit < r) ∧
        ∀ v, (WatchClass.fastFill, v) ∈ c.events ↔
          a.fastFill = false ∧ c.record.fastFill = true ∧ v = (r : Int)) ∧
      c.record.anchor =
        if 604800 < arrival - k.time then some { time := arrival, f16 := new } else some k) ∧
    (p.dueAt ≤ fillNow → c.record.dueCrossed = some (a.dueCrossed.getD arrival)) ∧
    (fillNow < p.dueAt → p.dueAt ≤ fillNow + 50 → c.record.dueCrossed = a.dueCrossed) ∧
    (fillNow + 50 < p.dueAt → c.record.dueCrossed = none) ∧
    (p.fullAt ≤ fillNow → c.record.fullCrossed = true) ∧
    (fillNow < p.fullAt → p.fullAt ≤ fillNow + 50 → c.record.fullCrossed = a.fullCrossed) ∧
    (fillNow + 50 < p.fullAt → c.record.fullCrossed = false) ∧
    (∀ v, (WatchClass.due, v) ∈ c.events ↔
      a.dueCrossed = none ∧ p.dueAt ≤ fillNow ∧ v = (fillNow : Int)) ∧
    (∀ v, (WatchClass.full, v) ∈ c.events ↔
      a.fullCrossed = false ∧ p.fullAt ≤ fillNow ∧ v = (fillNow : Int))

/-- A READING in LEARNING: the echo it selects (R82), the first three samples (R41), and the long
calibration (R92), which makes the bin ACTIVE with an offset taken from the second smallest of four
samples, held to −120..+120. -/
def Obligations.FourthSampleMakesTheBinActive : Prop :=
  (∀ (p : Profile) (es : List Echo),
    (es = [] ↔ selectLearning p es = none) ∧
    ∀ e, selectLearning p es = some e → e ∈ es ∧
      ∀ x ∈ es, (e.surf - p.depth).natAbs < (x.surf - p.depth).natAbs ∨
        ((e.surf - p.depth).natAbs = (x.surf - p.depth).natAbs ∧ e.surf ≤ x.surf)) ∧
  (∀ (p : Profile) (env : Surroundings) (payload : List Byte) (arrival : Nat) (gap : Option Nat)
      (a : Assigned) (learned : Option Int) (e : Echo) (c : Completion),
    a.state = .learning → kindOf payload = some .reading →
    selectLearning p (echoesUsed p 0 payload) = some e →
    c = completion p env payload arrival gap a learned →
    CompletesAs c (learningReading p env e (chosenTemp p (tempOf payload)).2 arrival
      (writtenAs a c.record) learned)) ∧
  (∀ (p : Profile) (env : Surroundings) (e : Echo) (clamped : Bool) (arrival : Nat) (a : Assigned)
      (learned : Option Int), a.samples.length < 3 →
    learningReading p env e clamped arrival a learned =
      { record := { a with samples := a.samples ++ [e.corr] }, learned := learned
        clearSilent := false, due := .nothing
        details := if clamped then [.tempClamped] else [], events := [] }) ∧
  ∀ (p : Profile) (env : Surroundings) (e : Echo) (clamped : Bool) (arrival : Nat) (a : Assigned)
    (learned : Option Int) (c : Completion) (b : Nat), a.samples.length = 3 → p.inRange = true →
    c = learningReading p env e clamped arrival a learned →
    b ∈ a.samples ++ [e.corr] →
    ((a.samples ++ [e.corr]).filter fun x => decide (x < b)).length ≤ 1 →
    2 ≤ ((a.samples ++ [e.corr]).filter fun x => decide (x ≤ b)).length →
    c.record.state = .active ∧ c.record.samples = [] ∧
    c.record.offset = max (-120) (min 120 ((b : Int) - p.depth)) ∧
    c.learned = some c.record.offset ∧ c.record.rate = none ∧
    (∃ s : Int, s = (if p.kind = .litter then max ((e.corr : Int) - c.record.offset) 0
        else e.corr - c.record.offset) ∧
      c.record.surface = some s ∧ c.record.f16 = some (mapFill p s * 16) ∧
      c.record.anchor = some { time := arrival, f16 := mapFill p s * 16 } ∧
      c.record.heaped = decide (p.kind = .litter ∧ s < p.mouth)) ∧
    c.due = dueUpdate p env arrival c.record ∧
    (.calLimit ∈ c.details ↔ (b : Int) - p.depth < -120 ∨ 120 < (b : Int) - p.depth) ∧
    (∀ v, (WatchClass.calLimit, v) ∈ c.events ↔
      ((b : Int) - p.depth < -120 ∨ 120 < (b : Int) - p.depth) ∧ v = (b : Int) - p.depth)

/-- A completion keeps every field of a record in its range (R33, R34, R88, R89). -/
def Obligations.CompletionKeepsFieldsInRange : Prop :=
  ∀ (p : Profile) (env : Surroundings) (payload : List Byte) (arrival : Nat) (gap : Option Nat)
    (a : Assigned) (learned : Option Int) (c : Completion), p.inRange = true → a.InRange →
    (∀ v, learned = some v → -120 ≤ v ∧ v ≤ 120) →
    c = completion p env payload arrival gap a learned →
    c.record.InRange ∧ ∀ v, c.learned = some v → -120 ≤ v ∧ v ≤ 120

/-- SILENCE_SWEEP (R43, R44): every bin not in flight that has been unheard for longer than its
profile's silence limit becomes SILENT, an ACTIVE one with its due entry flagged, and no other bin
changes; one SILENT event is raised for each, by ascending bin number; the next expiry is one interval
later. -/
def Obligations.SweepMakesUnheardBinsSilent : Prop :=
  ∀ (s : State) (due : Nat), s.Canonical → s.phase = .running → s.bins.sweepDue = some due →
    due ≤ s.time.localMs →
    ∃ t, exec .silenceSweep s = .next t ∧
      t = { s with
        bins := { s.bins with
          records := t.bins.records
          sweepDue := some (due + s.inForce.settings.sweepInterval * 1000) }
        due := t.due
        watch := t.watch } ∧
      (∃ found : List (Nat × Assigned), found.Pairwise (fun x y => x.1 < y.1) ∧
        (∀ b a, (b, a) ∈ found ↔ s.assigned b = some a ∧ UnheardTooLong s b a) ∧
        t.watch = found.foldl (fun w x => w.takeGroup s.time
          [{ cls := .silent, row := x.2.district, bin := some x.1, origin := none,
             value := ((x.2.f16.elim 0 fun v => (v + 8) / 16 : Nat) : Int) }]) s.watch) ∧
      (∀ b, s.assigned b = none → t.record b = s.record b) ∧
      (∀ b a, s.assigned b = some a →
        (UnheardTooLong s b a → t.record b =
          { s.record b with assigned := some { a with state := .silent, samples := [] } }) ∧
        (¬ UnheardTooLong s b a → t.record b = s.record b)) ∧
      t.due.length = s.due.length ∧
      ∀ (i : Nat) (x : DueEntry), s.due[i]? = some x →
        (∀ a, s.assigned x.bin = some a → a.state = .active → UnheardTooLong s x.bin a →
          t.due[i]? = some { x with silent := true }) ∧
        ((∀ a, s.assigned x.bin = some a → a.state = .active → ¬ UnheardTooLong s x.bin a) →
          t.due[i]? = some x)

/-! ### The watch unit and the collection-due queue -/

/-- What the watch unit makes of an event (R133, R134), and of a group (R136, R137): the NOTIFY
events of the group join the notice queue in order while places remain, companions when there are two
or more; its COUNT events and the NOTIFY events that find no place raise their counters. -/
def Obligations.EventsAreIgnoredCountedOrQueued : Prop :=
  (∀ (s : State) (e : Event), s.Canonical →
    s.raise e = { s with watch := { s.watch with
      counters := (s.raise e).watch.counters, notices := (s.raise e).watch.notices } } ∧
    (s.watch.mode e.row e.cls.num = .off → s.raise e = s) ∧
    ∀ row cls, cls < 16 → (s.raise e).watch.counter row cls =
      if row = e.row ∧ cls = e.cls.num ∧ s.watch.counter row cls < 65535 ∧
          (s.watch.mode row cls = .count ∨
            (s.watch.mode row cls = .notify ∧ 128 ≤ s.watch.notices.length)) then
        s.watch.counter row cls + 1 else s.watch.counter row cls) ∧
  ∀ (s : State) (es : List Event),
    (s.raiseGroup es).watch.notices = s.watch.notices ++
      (((es.filter fun e => s.watch.mode e.row e.cls.num == .notify).take
        (128 - s.watch.notices.length)).map fun e =>
          { cls := e.cls, row := e.row, bin := e.bin, origin := e.origin,
            time := s.time.planner s.time.seconds, quality := s.time.quality, value := e.value,
            companion := decide (2 ≤ (es.filter fun x =>
              s.watch.mode x.row x.cls.num == .notify).length),
            raisedAt := s.time.localMs }) ∧
    (s.raiseGroup es).watch.masks = s.watch.masks ∧
    (s.Canonical → ∀ row cls, cls < 16 → s.watch.counter row cls ≤ 65535 →
      (s.raiseGroup es).watch.counter row cls = min 65535 (s.watch.counter row cls +
        ((es.filter fun e => s.watch.mode e.row e.cls.num == .count) ++
          (es.filter fun e => s.watch.mode e.row e.cls.num == .notify).drop
            (128 - s.watch.notices.length)).countP
          fun e => decide (e.row = row ∧ e.cls.num = cls)))

/-- A prediction (R115, R116): the bin's old entry goes first; the entry is placed where there is
room or where its key is smaller than the last entry's, which is then evicted; else it is refused. -/
def Obligations.PredictionIsPlacedEvictsOrIsRefused : Prop :=
  ∀ (s : State) (e : DueEntry) (q : List DueEntry), s.Canonical →
    q = s.due.filter (fun x => x.bin != e.bin) → q.Pairwise (fun x y => x.before y = true) →
    q.length ≤ 512 →
    s.handPrediction e = { s with
      due := (s.handPrediction e).due
      bins := { s.bins with records := (s.handPrediction e).bins.records } } ∧
    (∀ b, (s.handPrediction e).assigned b = s.assigned b ∧
      ((s.handPrediction e).record b).mapped = (s.record b).mapped) ∧
    (q.length < 512 →
      (∃ pre post, q = pre ++ post ∧ (s.handPrediction e).due = pre ++ e :: post ∧
        (∀ x ∈ pre, x.before e = true) ∧ ∀ x ∈ post, e.before x = true) ∧
      ∀ b, ((s.handPrediction e).record b).unqueued =
        if b = e.bin then false else (s.record b).unqueued) ∧
    (∀ init last, q = init ++ [last] → q.length = 512 →
      (e.before last = true →
        (∃ pre post, init = pre ++ post ∧ (s.handPrediction e).due = pre ++ e :: post ∧
          (∀ x ∈ pre, x.before e = true) ∧ ∀ x ∈ post, e.before x = true) ∧
        ∀ b, ((s.handPrediction e).record b).unqueued =
          if b = e.bin then false else if b = last.bin then true else (s.record b).unqueued) ∧
      (e.before last = false →
        (s.handPrediction e).due = q ∧ ∀ b, ((s.handPrediction e).record b).unqueued =
          if b = e.bin then true else (s.record b).unqueued))

/-- A removal (R117). -/
def Obligations.RemovalTakesTheBinsEntryOut : Prop :=
  ∀ (s : State) (b : Nat), s.Canonical →
    s.handRemoval b = { s with due := s.due.filter (fun e => e.bin != b)
                               bins := (s.handRemoval b).bins } ∧
    ((∀ e ∈ s.due, e.bin ≠ b) → (s.handRemoval b).due = s.due) ∧
    (s.handRemoval b).bins.calibration = s.bins.calibration ∧
    (s.handRemoval b).bins.sweepDue = s.bins.sweepDue ∧
    ∀ i, (s.handRemoval b).record i =
      if i = b then { s.record i with unqueued := false } else s.record i

/-! ### The management queue -/

/-- MANAGEMENT_FRAME (R151, R159, R160): a body shorter than the request header is discarded; a
request joins the queue, is answered BUSY, or goes UNANSWERED. That the list is full for a refusal at
15 responses exactly while a change waits is log entry 22 (DEDUCED). -/
def Obligations.ArrivingRequestJoinsOrIsRefused : Prop :=
  ∀ (s : State) (body : List Byte), s.phase = .running →
    (body.length < 6 → exec (.managementFrame body) s = .next { s with
      watch := s.watch.takeGroup s.time
        [{ cls := .malformed, row := 16, bin := none, origin := none, value := 0x3003 }] }) ∧
    ∀ r : Request, 6 ≤ body.length →
      r = { tag := word16At body 0, credential := byteAt body 2, op := byteAt body 3,
            argLen := word16At body 4, args := body.drop 6 } →
      (s.management.queue.length < 8 → exec (.managementFrame body) s = .next { s with
        management := { s.management with queue := s.management.queue ++ [r] } }) ∧
      (8 ≤ s.management.queue.length →
        s.composer.responses.length < (if s.gates.change.isSome then 15 else 16) →
        exec (.managementFrame body) s = .next { s with composer := { s.composer with
          responses := s.composer.responses ++
            [{ tag := r.tag, op := r.op, result := .busy, frames := [.nothing] }] } }) ∧
      (8 ≤ s.management.queue.length →
        (if s.gates.change.isSome then 15 else 16) ≤ s.composer.responses.length →
        exec (.managementFrame body) s = .next { s with
          watch := s.watch.takeGroup s.time
            [{ cls := .malformed, row := 16, bin := none, origin := none, value := 0x3005 }] })

/-- A request that fails a check, whatever its operation, is answered with its result code alone and
changes nothing else (R161, R168). One whose operation lies outside 0x01..0x16 fails with UNKNOWN_OP
(R162). -/
def Obligations.FailingRequestChangesNothing : Prop :=
  ∀ (s : State) (r : Request), s.head = some r →
    (∀ x, headCheck s r = some x →
      exec (headCommand r) s = .next (answered s r x [.nothing])) ∧
    ((r.op < 0x01 ∨ 0x16 < r.op) →
      exec .unknownOp s = .next (answered s r .unknownOp [.nothing]))

/-- The checks before the arguments, in their order (R162, R163, R164, R167): the argument length, the
credential, the rights in every row concerned, and, for a change, the protection of every row
concerned; READ COUNTERS with the reset option is a read and a change at once (R142). That row 16 is
taken for a READ DEVICE of an unknown form and for a row argument out of range is log entry 10. -/
def Obligations.ChecksAreMadeInTheirOrder : Prop :=
  ∀ (s : State) (r : Request) (op : Operation), r.operation = some op →
    (r.lengthFits op = false → headCheck s r = some .badArgument) ∧
    (r.lengthFits op = true → s.inForce.settings.credentials ≤ r.credential →
      headCheck s r = some .authRange) ∧
    (r.lengthFits op = true → r.credential < s.inForce.settings.credentials →
      (isOwners op = true → r.credential ≠ 0 → headCheck s r = some .authDenied) ∧
      (isOwners op = false → isChange op = false →
        (∃ row ∈ rowsConcerned s r op, (s.authorityOf r.credential).view.getLsbD row = false) →
        headCheck s r = some .authDenied) ∧
      (isChange op = true →
        ((∃ row ∈ rowsConcerned s r op,
            (s.authorityOf r.credential).change.getLsbD row = false) →
          headCheck s r = some .authDenied) ∧
        ((∀ row ∈ rowsConcerned s r op,
            (s.authorityOf r.credential).change.getLsbD row = true) →
          (∃ row ∈ rowsConcerned s r op, s.inForce.protection.covers row = true) →
          headCheck s r = some .rowProtected)) ∧
      (op = .readCounters → r.arg8 1 % 2 = 1 →
        (∀ row ∈ rowsConcerned s r op, (s.authorityOf r.credential).view.getLsbD row = true) →
        ((∃ row ∈ rowsConcerned s r op,
            (s.authorityOf r.credential).change.getLsbD row = false) →
          headCheck s r = some .authDenied) ∧
        ((∀ row ∈ rowsConcerned s r op,
            (s.authorityOf r.credential).change.getLsbD row = true) →
          (∃ row ∈ rowsConcerned s r op, s.inForce.protection.covers row = true) →
          headCheck s r = some .rowProtected)) ∧
      (isChange op = false → isOwners op = false → (op = .readCounters → r.arg8 1 % 2 = 0) →
        (∀ row ∈ rowsConcerned s r op, (s.authorityOf r.credential).view.getLsbD row = true) →
        headCheck s r ≠ some .authDenied ∧ headCheck s r ≠ some .rowProtected))

/-- The gate set of each request (section 6.4). A change whose districts have estimates in flight only
sets its gates: every district of its gate set becomes CHANGING together, and the pending change is
recorded (R103). -/
def Obligations.ChangeWaitsForItsDistricts : Prop :=
  (∀ (s : State) (r : Request) (op : Operation) (d : Nat), r.operation = some op →
    (d ∈ s.gateSet r ↔ Gated s r d op)) ∧
  ∀ (s : State) (r : Request) (d : Nat), s.Canonical → s.head = some r → headCheck s r = none →
    d ∈ s.gateSet r → s.gates.count d ≠ 0 →
    ∃ t, exec (headCommand r) s = .next t ∧
      t = { s with gates := { s.gates with
        states := t.gates.states
        change := some { districts := s.gateSet r, since := s.time.localMs } } } ∧
      ∀ i, t.gates.state i = if i ∈ s.gateSet r then .changing else s.gates.state i

/-- LOAD_PREFIX and CLEAR_PREFIX with nothing in flight (R26, R27). Log entry 11: the command takes in
the giving of the free places (R106), as do those of the next four statements. -/
def Obligations.PrefixEntryIsLoadedOrCleared : Prop :=
  ∀ (s : State) (r : Request), s.Canonical → s.gates.drained (List.range 16) = true →
    (Passes s r .loadPrefix → ∃ t x, exec .loadPrefix s = .next t ∧
      Settled s t r .ok x (List.range 16) ∧
      PrefixSet s t r x (some { base := r.arg16 1, length := r.arg16 3 })) ∧
    (Passes s r .clearPrefix → ∃ t x, exec .clearPrefix s = .next t ∧
      Settled s t r .ok x (List.range 16) ∧ PrefixSet s t r x none)

/-- LOAD_DEVICE and CLEAR_DEVICE with nothing in flight in their districts (R28, R29): the entry and
the backlinks change together. -/
def Obligations.DeviceEntryAndBacklinkChangeTogether : Prop :=
  ∀ (s : State) (r : Request), s.Canonical → s.gates.drained (s.gateSet r) = true →
    (Passes s r .loadDevice → ∃ t x, exec .loadDevice s = .next t ∧
      Settled s t r .ok x (s.gateSet r) ∧
      DeviceSet s t r x (some { bin := r.arg16 2, generation := r.arg8 4 })) ∧
    (Passes s r .clearDevice → ∃ t x, exec .clearDevice s = .next t ∧
      Settled s t r .ok x (s.gateSet r) ∧ DeviceSet s t r x none)

/-- LOAD_BIN with nothing in flight in its districts, on an EMPTY bin (R47) and on an assigned one
(R48): the bin is made afresh, reset, or keeps its state. -/
def Obligations.LoadBinAssignsResetsOrKeeps : Prop :=
  ∀ (s : State) (r : Request) (b : Nat) (relearn : Bool) (learned : Option Int), s.Canonical →
    s.gates.drained (s.gateSet r) = true → b = r.arg16 0 → relearn = decide (r.arg8 5 % 2 = 1) →
    learned = (if relearn then none else s.learned b) → Passes s r .loadBin →
    ∃ t x, exec .loadBin s = .next t ∧ Settled s t r .ok x (s.gateSet r) ∧
      BinLoaded s t r x b relearn learned

/-- RETIRE_BIN and CLEAR_DISTRICT with nothing in flight in their districts (R50, R51, R52): the
bins become EMPTY, their device entries invalid, their due entries go, and their calibration entries
are cleared only with the option. That the calibration item of RETIRE BIN's response is the option
given is log entry 19 (DEDUCED). -/
def Obligations.RetiredBinsBecomeEmpty : Prop :=
  ∀ (s : State) (r : Request), s.Canonical → s.gates.drained (s.gateSet r) = true →
    (Passes s r .retireBin → ∃ t x, exec .retireBin s = .next t ∧
      Settled s t r .ok x (s.gateSet r) ∧ BinRetired s t r x (r.arg16 0)) ∧
    (Passes s r .clearDistrict → ∃ t x, exec .clearDistrict s = .next t ∧
      Settled s t r .ok x (s.gateSet r) ∧ DistrictCleared s t r x (r.arg8 0))

/-- LOAD_PROFILE with nothing in flight (R59, R64, R65): the entry takes the fields, a GLASS weight
at most 4; a changed geometry resets every bin that names the profile, and nothing else touches a
bin. -/
def Obligations.LoadProfileResetsItsBinsOnNewGeometry : Prop :=
  ∀ (s : State) (r : Request), s.Canonical → s.gates.drained (List.range 16) = true →
    Passes s r .loadProfile → ∃ t x p, r.profile = some p ∧ exec .loadProfile s = .next t ∧
      Settled s t r .ok x (List.range 16) ∧ ProfileLoaded s t x (r.arg8 0) p

/-- CHANGE_APPLICATION (R104): once every gated district has an in-flight count of 0, the tables are
changed as the request says, the gates reopen, and the response is OK; for a pending change that was
checked, the change is the one its command makes at once where nothing is in flight. CHANGE_TIMEOUT
(R105): at the change wait limit, with an estimate of a gated district in flight, nothing of the
change is applied, the gates reopen, and the response is TIMEOUT; where the districts have drained it
does nothing (R107). Log entry 11: both take in the giving of the free places (R106). -/
def Obligations.PendingChangeIsAppliedOrTimesOut : Prop :=
  ∀ (s : State) (c : PendingChange) (r : Request) (rest : List Request), s.Canonical →
    s.phase = .running → s.gates.change = some c → s.management.queue = r :: rest →
    (s.gates.drained c.districts = true →
      ∃ t, exec .changeApplication s = .next t ∧
        Settled s t r .ok (applyChange r s).2 c.districts ∧
        t.translation = (applyChange r s).1.translation ∧ t.bins = (applyChange r s).1.bins ∧
        t.profiles = (applyChange r s).1.profiles ∧ t.due = (applyChange r s).1.due ∧
        (16 ≤ t.intake.admission.length ∨ t.openDeferred = none) ∧
        (s.PendingSound → ∃ op, r.operation = some op ∧
          ChangeMade s t r (applyChange r s).2 op)) ∧
    (s.gates.drained c.districts = true → exec .changeTimeout s = .next s) ∧
    (c.since + s.inForce.settings.changeWait * 1000 ≤ s.time.localMs →
      s.gates.drained c.districts = false →
      ∃ t, exec .changeTimeout s = .next t ∧ Settled s t r .timeout .nothing c.districts ∧
        t.translation = s.translation ∧ t.bins = s.bins ∧ t.profiles = s.profiles ∧
        t.due = s.due ∧ (16 ≤ t.intake.admission.length ∨ t.openDeferred = none))

/-- The reads answered in one frame (R30, R31, R53, R67, R110, R142, R166, R177): each reports its
table as it stands and changes none. What READ CONFIG reports of a part that is being written is log
entry 24 (DEDUCED). -/
def Obligations.ReadsReportTheTablesAsTheyStand : Prop :=
  ∀ (s : State) (r : Request), s.head = some r → headCheck s r = none →
    (r.operation = some .readPrefix →
      (s.translation.prefixes.get (r.arg8 0) = none →
        exec .readPrefix s = .next (answered s r .ok [.prefixIs false 0 0 0])) ∧
      ∀ seg, s.translation.prefixes.get (r.arg8 0) = some seg →
        exec .readPrefix s = .next (answered s r .ok [.prefixIs true seg.base seg.length
          (s.translation.prefixes.entries.filter fun x => x.1 != r.arg8 0 &&
            decide (x.2.base < seg.base + seg.length) &&
            decide (seg.base < x.2.base + x.2.length)).length])) ∧
    (r.operation = some .readDevice → r.arg8 0 = 0 →
      (s.device (r.arg16 3) = none →
        exec .readDeviceByEntry s = .next (answered s r .ok [.deviceIs false 0 0 none])) ∧
      ∀ m, s.device (r.arg16 3) = some m →
        exec .readDeviceByEntry s = .next (answered s r .ok [.deviceIs true m.bin m.generation
          (some (decide ((s.record m.bin).mapped = some (r.arg16 3))))])) ∧
    (r.operation = some .readDevice → r.arg8 0 = 1 →
      ∃ x, exec .readDeviceBySensor s = .next (answered s r .ok [.sensorIs x]) ∧
        sensorFields s (BitVec.ofNat 32 (word32At r.args 1)) x) ∧
    (r.operation = some .readBin →
      ∃ x, exec .readBin s = .next (answered s r .ok [.binIs x]) ∧
        binFields s (r.arg16 0) (decide (r.arg8 2 % 2 = 1)) x) ∧
    (r.operation = some .readProfile → ∃ p, s.profiles.get (r.arg8 0) = some p ∧
      exec .readProfile s = .next (answered s r .ok
        [.profileIs p
          (s.countBins fun a => a.profile == r.arg8 0 && a.state == .learning)
          (s.countBins fun a => a.profile == r.arg8 0 && a.state == .active)
          (s.countBins fun a => a.profile == r.arg8 0 && a.state == .silent)])) ∧
    (r.operation = some .readOutcomes → exec .readOutcomes s = .next (answered s r .ok
      [.outcomesAre ((List.range 18).map (s.gates.tally (r.arg8 0)))
        (if r.arg8 0 < 16 then some (s.gates.count (r.arg8 0)) else none)
        (if r.arg8 0 < 16 then (s.gates.deferred.filter fun d => d.district == r.arg8 0).length
          else s.gates.deferred.length)
        s.inForce.settings.changeWait])) ∧
    (r.operation = some .readCounters → r.arg8 1 % 2 = 0 →
      exec .readCounters s = .next (answered s r .ok
        [.countersAre ((List.range 16).map (s.watch.counter (r.arg8 0)))
          ((List.range 16).map (s.watch.mode (r.arg8 0))) s.watch.notices.length
          (s.watch.notices.filter fun n => n.row == r.arg8 0).length])) ∧
    (r.operation = some .readAuthority → exec .readAuthority s = .next (answered s r .ok
      [.authorityIs (s.authorityOf (r.arg8 0)) s.inForce.settings.credentials
        (decide (r.arg8 0 < s.inForce.settings.credentials))])) ∧
    (r.operation = some .readConfig →
      ∃ x, exec .readConfig s = .next (answered s r .ok [.configIs x]) ∧ configFields s x)

/-- REQUEST_DUE_LIST (R124 to R127): the soonest entries of the district set, at most the maximum
count, silent ones only with the option, in frames of 32. -/
def Obligations.DueListHoldsTheSoonestEntries : Prop :=
  ∀ (s : State) (r : Request) (chosen : List DueEntry), Passes s r .requestDueList →
    chosen = (s.due.filter fun e =>
      decide (e.district ∈ r.districts) && (decide (r.arg8 3 % 2 = 1) || !e.silent)).take
        (r.arg16 0) →
    ∃ frames : List DueFrame,
      exec .requestDueList s = .next (answered s r .ok (frames.map Contents.dueList)) ∧
      frames.length = max 1 ((chosen.length + 31) / 32) ∧
      frames.flatMap (·.items) =
        ((if r.arg8 2 = 1 then (List.range 16).flatMap fun d =>
            chosen.filter fun e => e.district == d else chosen).map fun e =>
          { bin := e.bin, district := e.district,
            due := BitVec.ofInt 32 ((e.due : Int) + s.time.offset), isOver := e.isOver,
            silent := e.silent, coarse := e.coarse }) ∧
      ∀ i f, frames[i]? = some f →
        f.number = i ∧ f.frames = frames.length ∧ f.quality = s.time.quality ∧
        f.selected = chosen.length ∧
        f.matching = (s.due.filter fun e => decide (e.district ∈ r.districts)).length ∧
        f.unqueued = (s.bins.records.entries.filter fun x =>
          x.2.unqueued && x.2.assigned.any fun a => decide (a.district ∈ r.districts)).length ∧
        f.items.length ≤ 32 ∧ (i + 1 < frames.length → f.items.length = 32)

/-- LOAD_WATCH_MASK (R140), RESET_COUNTERS and READ_COUNTERS_RESET (R143): exactly the selected masks
take the mode, exactly the selected counters become 0, and nothing else of the watch unit changes.
That RESET COUNTERS over all rows reports 0 for a class that is not selected is log entry 19 (DESIGN
CHOICE). -/
def Obligations.SelectedMasksAndCountersChange : Prop :=
  ∀ (s : State) (r : Request) (rows : List Nat), s.Canonical →
    (r.arg8 0 ≤ 16 → rows = [r.arg8 0]) → (r.arg8 0 = 0xFF → rows = List.range 17) →
    (∀ m, Passes s r .loadWatchMask → MaskMode.ofCode (r.arg8 3) = some m →
      ∃ t changed, exec .loadWatchMask s = .next t ∧
        t = { answered s r .ok [.masksChanged changed] with
              watch := { s.watch with masks := t.watch.masks } } ∧
        changed = (rows.flatMap fun row => (List.range 16).filter fun cls =>
          (r.set16 1).getLsbD cls && s.watch.mode row cls != m).length ∧
        ∀ row cls, cls < 16 → t.watch.mode row cls =
          if row ∈ rows ∧ (r.set16 1).getLsbD cls = true then m else s.watch.mode row cls) ∧
    (Passes s r .resetCounters → ∃ t values, exec .resetCounters s = .next t ∧
      t = { answered s r .ok [.countersWere values] with
            watch := { s.watch with counters := t.watch.counters } } ∧
      (r.arg8 0 ≤ 16 → values = (List.range 16).map (s.watch.counter (r.arg8 0))) ∧
      (r.arg8 0 = 0xFF → values = (List.range 16).map fun cls =>
        if (r.set16 1).getLsbD cls then
          ((List.range 17).map fun row => s.watch.counter row cls).sum else 0) ∧
      ∀ row cls, cls < 16 → t.watch.counter row cls =
        if row ∈ rows ∧ (r.set16 1).getLsbD cls = true then 0 else s.watch.counter row cls) ∧
    (Passes s r .readCounters → r.arg8 1 % 2 = 1 → ∃ t, exec .readCountersReset s = .next t ∧
      t = { answered s r .ok
              [.countersAre ((List.range 16).map (s.watch.counter (r.arg8 0)))
                ((List.range 16).map (s.watch.mode (r.arg8 0))) s.watch.notices.length
                (s.watch.notices.filter fun n => n.row == r.arg8 0).length] with
            watch := { s.watch with counters := t.watch.counters } } ∧
      ∀ row cls, cls < 16 → t.watch.counter row cls =
        if row = r.arg8 0 then 0 else s.watch.counter row cls)

/-- LOAD_AUTHORITY (R165) and STORE_CONFIG (R176): the target's sets are replaced; the record becomes
the store's pending record, its district set empty unless the level is DISTRICTS, with the values in
force and the stored record as they were, and the clamp list names the settings that a start will
adjust. A row set is sent as 3 bytes whose bits 17 to 23 are clear (R181). -/
def Obligations.AuthorityAndRecordAreReplaced : Prop :=
  ∀ (s : State) (r : Request), s.Canonical →
    (Passes s r .loadAuthority → ∃ t, exec .loadAuthority s = .next t ∧
      (1 ≤ r.arg8 0 ∧ r.arg8 0 ≤ 7 ∧ r.credential = 0) ∧
      t = { answered s r .ok [.authorityWas (s.authorityOf (r.arg8 0))] with
            management := { s.management with
              queue := s.management.queue.tail, authority := t.management.authority } } ∧
      ∀ c, t.authorityOf c = if c = r.arg8 0 then
        { view := BitVec.ofNat 17 (word24At r.args 1), change := BitVec.ofNat 17 (word24At r.args 4) }
        else s.authorityOf c) ∧
    (∀ set : RowSet, (rowSetBytes set).length = 3 ∧ ∀ i,
      (BitVec.ofNat 24 (word24At (rowSetBytes set) 0)).getLsbD i = set.getLsbD i) ∧
    (∀ a n below, (Contents.authorityWas a).rowSets = [rowSetBytes a.view, rowSetBytes a.change] ∧
      (Contents.authorityIs a n below).rowSets = [rowSetBytes a.view, rowSetBytes a.change]) ∧
    (Passes s r .storeConfig → r.credential = 0 ∧ ∃ (record : StartRecord) (clamps : List Setting),
      exec .storeConfig s = .next
        { answered s r .ok [.configStored clamps s.store.writing.isSome] with
          store := { s.store with waiting := some record } } ∧
      (∀ x, settingOf record.settings.values x = word16At r.args (settingAt x)) ∧
      record.protection.level = r.arg8 16 ∧
      record.protection.districts = (if r.arg8 16 = 1 then r.set16 17 else 0) ∧
      NamesAdjusted clamps record.settings.values)

/-- RESTART (R179): every block takes its restart state, and a start with cause COMMAND and the
request's tag begins; the tables, the calibration, the due entries and the masks are kept. -/
def Obligations.RestartKeepsTablesAndDropsQueues : Prop :=
  ∀ (s : State) (r : Request), Passes s r .restart → ∃ t, exec .restart s = .next t ∧
    t.phase = .starting (.command r.tag) ∧
    t = { s with
      phase := t.phase
      time := { s.time with
        state := if s.time.state = .unset then .unset else .freeRun, lossRunning := false }
      intake := { lastChain := 3, window := [], admission := [] }
      bins := { s.bins with sweepDue := none }
      slots := []
      gates := { states := .empty, inFlight := .empty, change := none, deferred := [],
                 tallies := .empty }
      watch := { s.watch with counters := .empty, notices := [] }
      composer := { paused := false, responses := [], sending := none, startPending := false,
                    pendingSummary := none, debt := 0, rotation := 0, steps := 0,
                    summaryDue := none }
      management := { s.management with queue := [] } }

/-! ### The report composer -/

/-- The arbiter takes the first eligible candidate in rank order, and none while a frame is being
sent or the link is paused (R150, R155). -/
def Obligations.ArbiterTakesTheFirstEligibleCandidate : Prop :=
  ∀ s : State,
    ((s.composer.paused = true ∨ s.composer.sending ≠ none) → s.choose = none) ∧
    (s.composer.paused = false → s.composer.sending = none → s.choose =
      if s.composer.startPending then some .start
      else if s.composer.responses ≠ [] then some .response
      else if s.composer.pendingSummary = some .forced then some .forced
      else if 8 ≤ s.watch.notices.length ∨ (s.watch.notices.head?.any fun n =>
          decide (n.raisedAt + s.inForce.settings.noticeHold ≤ s.time.localMs)) = true then
        some .notice
      else if s.composer.pendingSummary = some .scheduled then some .scheduled
      else if 0 < s.composer.debt then some .catchUp
      else none)

/-- The grants (R151, R152, R153, R155, R156): START, the next frame of the oldest response, up to 8
of the oldest notice records, and the three kinds of summary, each with what it leaves, and the
summary's body. -/
def Obligations.GrantSendsItsFrame : Prop :=
  ∀ s : State, s.phase = .running →
    (s.choose = some .start → exec .startGrant s = .next { s with
          composer := { s.composer with
        startPending := false
        sending := some (.start
          { cause := s.inForce.cause, status := s.inForce.status
            protection := s.inForce.protection, family := 0x8140, revision := 2 }) } }) ∧
    (∀ x rest first more, s.choose = some .response → s.composer.responses = x :: rest →
      x.frames = first :: more → exec .responseGrant s = .next { s with
        composer := { s.composer with
          responses := if more = [] then rest else { x with frames := more } :: rest
          sending := some (.response x.tag x.op x.result first) } }) ∧
    (s.choose = some .notice → exec .noticeGrant s = .next { s with
      watch := { s.watch with notices := s.watch.notices.drop 8 }
      composer := { s.composer with sending := some (.notice (s.watch.notices.take 8)) } }) ∧
    (∀ kind, (s.choose = some .forced ∧ kind = .forced) ∨
        (s.choose = some .scheduled ∧ kind = .scheduled) →
      exec .summaryGrant s = .next { s with
        composer := { s.composer with
          pendingSummary := none
          rotation := (s.composer.rotation + 1) % 16
          steps := 0
          sending := some (.summary (s.summaryBody kind s.composer.debt)) } }) ∧
    (s.choose = some .catchUp → exec .catchUpSummary s = .next { s with
      composer := { s.composer with
        debt := s.composer.debt - 1
        rotation := (s.composer.rotation + 1) % 16
        steps := 0
        sending := some (.summary (s.summaryBody .catchUp (s.composer.debt - 1))) } }) ∧
    ∀ (kind : SummaryKind) (debt d : Nat), d = s.composer.rotation →
      s.summaryBody kind debt =
        { district := d, kind := kind, debt := debt
          active := s.countBins fun a => a.district == d && a.state == .active
          learning := s.countBins fun a => a.district == d && a.state == .learning
          silent := s.countBins fun a => a.district == d && a.state == .silent
          empty := 8192 - s.countBins fun _ => true
          meanFill := (s.fillsOf d).sum / (s.fillsOf d).length
          dueCrossed := s.countBins fun a => a.district == d && a.dueCrossed.isSome
          fullCrossed := s.countBins fun a => a.district == d && a.fullCrossed
          dueEntries := (s.due.filter fun e => e.district == d).length
          time := s.time.planner s.time.seconds, quality := s.time.quality
          steps := s.composer.steps }

/-- PAUSE, GO, TRANSMISSION_END and NOTICE_HOLD_EXPIRY (R149, R150, R152): PAUSE sets the flag alone;
the other three let the arbiter make a grant. That they take in that grant in their own step is log
entry 11 (DEDUCED). -/
def Obligations.PauseHoldsAndGoReleasesTheLink : Prop :=
  ∀ s : State, s.phase = .running →
    exec .pause s = .next { s with composer := { s.composer with paused := true } } ∧
    (s.composer.paused = false → exec .go s = .next s) ∧
    (s.composer.paused = true → exec .go s =
      .next (State.arbitrate { s with composer := { s.composer with paused := false } })) ∧
    (s.composer.sending ≠ none → exec .transmissionEnd s =
      .next (State.arbitrate { s with composer := { s.composer with sending := none } })) ∧
    (∀ n rest, s.watch.notices = n :: rest →
      n.raisedAt + s.inForce.settings.noticeHold ≤ s.time.localMs → s.choose = some .notice →
      exec .noticeHoldExpiry s = .next { s with
        watch := { s.watch with notices := s.watch.notices.drop 8 }
        composer := { s.composer with sending := some (.notice (s.watch.notices.take 8)) } })

/-- SUMMARY_TIMER_EXPIRY (R154): the table of what an expiry does, and the next expiry. -/
def Obligations.SummaryTimerRaisesDebtUnderCongestion : Prop :=
  ∀ (s : State) (due : Nat) (congested : Bool), s.phase = .running →
    s.composer.summaryDue = some due → due ≤ s.time.localMs →
    congested = (s.composer.paused || decide (64 ≤ s.watch.notices.length) ||
      !s.composer.responses.isEmpty) →
    ∃ pending debt, exec .summaryTimerExpiry s = .next { s with composer := { s.composer with
        pendingSummary := pending
        debt := debt
        summaryDue := some (due + s.inForce.settings.summaryInterval * 1000) } } ∧
      (s.composer.pendingSummary = none → congested = false →
        pending = some .scheduled ∧ debt = s.composer.debt) ∧
      (s.composer.pendingSummary = none → congested = true → s.composer.debt < 8 →
        pending = none ∧ debt = s.composer.debt + 1) ∧
      (s.composer.pendingSummary = none → congested = true → 8 ≤ s.composer.debt →
        pending = some .forced ∧ debt = s.composer.debt) ∧
      (s.composer.pendingSummary ≠ none → s.composer.debt < 8 →
        pending = s.composer.pendingSummary ∧ debt = s.composer.debt + 1) ∧
      (s.composer.pendingSummary ≠ none → 8 ≤ s.composer.debt →
        pending = s.composer.pendingSummary ∧ debt = s.composer.debt)

/-! ### Time, store and starts -/

/-- TIME_BEACON (R172) and BEACON_LOSS_EXPIRY (R173). That the loss limit is measured in whole local
seconds is log entry 21 (DEDUCED). -/
def Obligations.BeaconSyncsAndItsLossFreesTheClock : Prop :=
  ∀ s : State, s.phase = .running →
    (∀ (v : BitVec 32) (offset : Int), offset = (v.toNat : Int) - (s.time.localMs / 1000 : Nat) →
      exec (.timeBeacon v) s = .next { s with
        time := { localMs := s.time.localMs, offset := offset, state := .synced,
                  lossRunning := true, lastBeacon := some (s.time.localMs / 1000) }
        composer := { s.composer with
          steps := if offset - s.time.offset ≤ 2 ∧ s.time.offset - offset ≤ 2 then s.composer.steps
            else min 255 (s.composer.steps + 1) } }) ∧
    (∀ last, s.time.lossRunning = true → s.time.state = .synced → s.time.lastBeacon = some last →
      last + s.inForce.settings.beaconLoss ≤ s.time.localMs / 1000 →
      exec .beaconLossExpiry s = .next { s with
        time := { s.time with state := .freeRun, lossRunning := false } })

/-- STORE_WRITE_BEGIN and STORE_WRITE_END (R176): the pending record is taken up, and a write that
ends leaves the settings with their check and three equal copies. That the end can come from whatever
part the write has reached is log entry 5 (DESIGN CHOICE), and the bytes under the check are log entry
7 (DEDUCED). -/
def Obligations.StoreWriteReplacesTheWholeRecord : Prop :=
  ∀ s : State, s.phase ≠ .off →
    (∀ record, s.store.waiting = some record → s.store.writing = none →
      exec .storeWriteBegin s = .next { s with store := { s.store with
        waiting := none, writing := some { record := record, point := .block } } }) ∧
    (∀ w, s.store.writing = some w →
      exec .storeWriteEnd s = .next { s with store :=
        { settings := w.record.settings, check := crc16 w.record.settings.bytes,
          copy1 := w.record.protection, copy2 := w.record.protection,
          copy3 := w.record.protection, waiting := s.store.waiting, writing := none } })

/-- POWER_LOSS (R176): the pending record is lost and the write is cut off where it stands; cut off
in the settings block the next start is DEFAULTED, and after it, before copy 3 is complete, the
copies are left unequal and the next start reports PROTECT_MISMATCH, unless the copy being written
already held the new value (log entry 6). That every volatile field stands as it was until power
returns is log entry 9 (DESIGN CHOICE). -/
def Obligations.PowerLossCutsTheStoreWriteOff : Prop :=
  ∀ s : State, s.phase ≠ .off → ∃ t, exec .powerLoss s = .next t ∧
    t = { s with phase := .off, store := t.store, drawn := t.drawn } ∧
    t.store.waiting = none ∧ t.store.writing = none ∧
    (s.store.writing = none → t.store = { s.store with waiting := none }) ∧
    ∀ (w : StoreWrite) (cause : StartCause), s.store.writing = some w →
      (w.point = .block → t.store.copy1 = s.store.copy1 ∧ t.store.copy2 = s.store.copy2 ∧
        t.store.copy3 = s.store.copy3 ∧ (t.store.putInForce cause).status = .defaulted) ∧
      (w.point ≠ .block → t.store.settings = s.store.settings ∧ t.store.check = s.store.check) ∧
      (s.store.check = s.store.settings.check →
        (w.point = .copy1 ∧ s.store.copy1 ≠ w.record.protection) ∨
        (w.point = .copy2 ∧ s.store.copy1 = w.record.protection ∧
          s.store.copy2 ≠ w.record.protection) ∨
        (w.point = .copy3 ∧ s.store.copy1 = w.record.protection ∧
          s.store.copy2 = w.record.protection ∧ s.store.copy3 ≠ w.record.protection) →
        ¬ (t.store.copy1 = t.store.copy2 ∧ t.store.copy2 = t.store.copy3) ∧
          (t.store.putInForce cause).status = .protectMismatch)

/-- START_COMPLETE (R174, R175, R178): each stored setting is put in force, raised to its low limit,
lowered to its high limit, the merge window rounded down to a multiple of 250; the clamp list names
exactly the settings so adjusted; the protection and the status are those of R175; the timers start,
and the START frame becomes eligible. The bytes under the check are log entry 7 (DEDUCED). -/
def Obligations.StartPutsTheRecordInForce : Prop :=
  ∀ (s : State) (cause : StartCause), s.phase = .starting cause → s.resetLine = false →
    s.store.waiting = none → s.store.writing = none →
    ∃ f : InForce, exec .startComplete s = .next { s with
        phase := .running
        inForce := f
        bins := { s.bins with
          sweepDue := some (s.time.localMs + f.settings.sweepInterval * 1000) }
        composer := { s.composer with
          startPending := true
          summaryDue := some (s.time.localMs + f.settings.summaryInterval * 1000) } } ∧
      f.cause = cause ∧ f.settings.InRange ∧
      (s.store.check ≠ crc16 s.store.settings.bytes →
        f.status = .defaulted ∧ f.protection = .all ∧ f.clamps = [] ∧
        f.settings = { mergeWindow := 1500, sweepInterval := 300, dueHorizon := 14, changeWait := 5,
                       noticeHold := 2000, summaryInterval := 900, beaconLoss := 600,
                       credentials := 1 }) ∧
      (s.store.check = crc16 s.store.settings.bytes →
        (∀ x, settingOf f.settings x = putInRange x (settingOf s.store.settings.values x)) ∧
        NamesAdjusted f.clamps s.store.settings.values ∧
        (s.store.settings.values.InRange → f.settings = s.store.settings.values ∧ f.clamps = []) ∧
        (¬ s.store.settings.values.InRange → f.clamps ≠ []) ∧
        (∀ p, s.store.copy1 = s.store.copy2 → s.store.copy2 = s.store.copy3 →
          s.store.copy1.valid = some p → f.protection = p ∧
            f.status = if f.clamps = [] then .ok else .clamped) ∧
        (¬ (s.store.copy1 = s.store.copy2 ∧ s.store.copy2 = s.store.copy3) ∨
            s.store.copy1.valid = none →
          f.protection = .all ∧ f.status = .protectMismatch))

/-- POWER_ON, RESET_LINE_ASSERT and RESET_LINE_RELEASE (R178, R16, R17, R32, R55, R69, R111, R129,
R145, R158, R169): power-on keeps nothing but the stored record; the reset line puts every block in
its restart state, which keeps the tables. What stands in force between power-on and the reading of
the record is log entry 2 (DESIGN CHOICE). -/
def Obligations.PowerAndResetLineBeginAStart : Prop :=
  ∀ s : State,
    (s.phase = .off → exec .powerOn s = .next { State.reset with
      phase := .starting .powerOn, pending := s.pending, resetLine := s.resetLine, store := s.store,
      drawn := s.drawn }) ∧
    (s.phase ≠ .off → s.resetLine = false → exec .resetLineAssert s = .next { s with
      phase := .starting .resetLine
      resetLine := true
      time := { s.time with
        state := if s.time.state = .unset then .unset else .freeRun, lossRunning := false }
      intake := { lastChain := 3, window := [], admission := [] }
      bins := { s.bins with sweepDue := none }
      slots := []
      gates := { states := .empty, inFlight := .empty, change := none, deferred := [],
                 tallies := .empty }
      watch := { s.watch with counters := .empty, notices := [] }
      composer := { paused := false, responses := [], sending := none, startPending := false,
                    pendingSummary := none, debt := 0, rotation := 0, steps := 0,
                    summaryDue := none }
      management := { s.management with queue := [] } }) ∧
    exec .resetLineRelease s = .next { s with resetLine := false }

/-! ### What every step keeps -/

/-- Every step keeps the tables in their canonical forms, the timebase sound (R171, R173) and the
settings in force in their ranges (R174). The canonical form is how the model holds a table (log entry
14), and what is in force after power-on is its choice (log entry 2). -/
def Obligations.EveryStepKeepsTablesTimeAndSettings : Prop :=
  ∀ s t : State, step s = .next t → (s.Canonical → t.Canonical) ∧ (s.time.Sound → t.time.Sound) ∧
    (s.inForce.settings.InRange → t.inForce.settings.InRange)

/-- Every step keeps every queue, list and count within its size (R5, R12, R70, R102, R113, R136,
R151, R154, R156, R160), and the keys of the merge window distinct (R5). -/
def Obligations.EveryStepKeepsQueuesBounded : Prop :=
  ∀ s t : State, s.Bounded → s.KeysDistinct → step s = .next t → t.Bounded ∧ t.KeysDistinct

/-- Every step keeps the in-flight counts equal to the numbers of busy slots, and never two estimates
for one bin (R70, R100). -/
def Obligations.EveryStepKeepsInFlightCounts : Prop :=
  ∀ s t : State, s.Canonical → s.InFlightSound → step s = .next t → t.InFlightSound

/-- A change is applied to a district only when nothing of it is in flight (R104): every step keeps
each bin in flight in the district its estimate started in (R35), with the gates CHANGING exactly for
the pending change and the pending change as it was checked (R100, R103, R161). -/
def Obligations.EveryStepKeepsFlightsInTheirDistricts : Prop :=
  ∀ s t : State, s.Canonical → s.InFlightSound → s.GatesSound → s.PendingSound → s.FlightsSound →
    step s = .next t → t.GatesSound ∧ t.PendingSound ∧ t.FlightsSound

/-- Every step keeps offsets and calibration entries in agreement with the bin states (R33, R34), and
the collection-due queue ordered, with one entry a bin, for ACTIVE and SILENT bins alone (R113). -/
def Obligations.EveryStepKeepsCalibrationAndDueQueue : Prop :=
  ∀ s t : State, s.Canonical → s.CalibrationSound → s.DueSound → step s = .next t →
    t.CalibrationSound ∧ t.DueSound

/-- Every step keeps the translation tables and their backlinks in step (R19, R20), and the profiles
in their ranges with every assigned bin naming a loaded one (R56, R59). -/
def Obligations.EveryStepKeepsBacklinksAndProfiles : Prop :=
  ∀ s t : State, s.Canonical → s.PendingSound → s.TranslationSound → s.ProfilesSound →
    step s = .next t → t.TranslationSound ∧ t.ProfilesSound

/-- The state after reset meets every invariant. Which state that is, a part fresh from the factory at
power-on, is log entry 8 (DESIGN CHOICE), and what is in force in it log entry 2 (DESIGN CHOICE). -/
def Obligations.ResetMeetsEveryInvariant : Prop :=
  State.reset.Canonical ∧ State.reset.Bounded ∧ State.reset.KeysDistinct ∧
    State.reset.InFlightSound ∧ State.reset.GatesSound ∧ State.reset.PendingSound ∧
    State.reset.FlightsSound ∧ State.reset.CalibrationSound ∧ State.reset.DueSound ∧
    State.reset.TranslationSound ∧ State.reset.ProfilesSound ∧ State.reset.time.Sound ∧
    State.reset.inForce.settings.InRange

/-- Only the changes, their application and power-on alter the translation tables, the profiles and
the assignment of a bin (R161); only LOAD WATCH MASK and power-on the masks, only LOAD AUTHORITY and
power-on the authority table, only the end of a write and loss of power the stored record, only the
end of a start and power-on what is in force (R167), only power-on local time, and only a beacon and
power-on the planner offset. That loss of power leaves the volatile fields as they were is log entry 9
(DESIGN CHOICE). -/
def Obligations.StateChangesOnlyByItsOwnCommands : Prop :=
  ∀ (c : Instr) (s t : State), s.Canonical → exec c s = .next t →
    (altersTables c = false → t.translation = s.translation ∧ t.profiles = s.profiles ∧
      ∀ b, (t.record b).mapped = (s.record b).mapped ∧
        (t.assigned b).map (fun a => (a.district, a.profile, a.generation)) =
          (s.assigned b).map (fun a => (a.district, a.profile, a.generation))) ∧
    (c ≠ .loadWatchMask → c ≠ .powerOn → t.watch.masks = s.watch.masks) ∧
    (c ≠ .loadAuthority → c ≠ .powerOn → t.management.authority = s.management.authority) ∧
    (c ≠ .storeWriteEnd → c ≠ .powerLoss → t.store.settings = s.store.settings ∧
      t.store.check = s.store.check ∧ t.store.copy1 = s.store.copy1 ∧
      t.store.copy2 = s.store.copy2 ∧ t.store.copy3 = s.store.copy3) ∧
    (c ≠ .startComplete → c ≠ .powerOn → t.inForce = s.inForce) ∧
    (c ≠ .powerOn → t.time.localMs = s.time.localMs) ∧
    ((∀ v, c ≠ .timeBeacon v) → c ≠ .powerOn → t.time.offset = s.time.offset)

/-- While the paused flag is set no frame is granted (R149): no command but GO lets the part begin to
send, and the flag stays set but for GO and the causes of a start. That it stays set over a loss of
power, until power returns, is log entry 9 (DESIGN CHOICE). -/
def Obligations.PausedLinkGrantsNothing : Prop :=
  ∀ (c : Instr) (s t : State), s.composer.paused = true → exec c s = .next t → c ≠ .go →
    (t.composer.sending = s.composer.sending ∨ t.composer.sending = none) ∧
    (c ≠ .powerOn → c ≠ .resetLineAssert → c ≠ .restart → t.composer.paused = true)
end

