-- ==== Sys2Proof/Laws/State.lean ====
section
/-! SUPPORT. What each update of the state leaves in each field: one lemma a field for each primitive
update, true by unfolding. -/

namespace Sys2Proof.Machine

variable (s : State)

@[simp] theorem State.setRecord_pending (b : Nat) (r : BinRecord) :
    (s.setRecord b r).pending = s.pending := rfl
@[simp] theorem State.setRecord_phase (b : Nat) (r : BinRecord) :
    (s.setRecord b r).phase = s.phase := rfl
@[simp] theorem State.setRecord_resetLine (b : Nat) (r : BinRecord) :
    (s.setRecord b r).resetLine = s.resetLine := rfl
@[simp] theorem State.setRecord_time (b : Nat) (r : BinRecord) :
    (s.setRecord b r).time = s.time := rfl
@[simp] theorem State.setRecord_intake (b : Nat) (r : BinRecord) :
    (s.setRecord b r).intake = s.intake := rfl
@[simp] theorem State.setRecord_translation (b : Nat) (r : BinRecord) :
    (s.setRecord b r).translation = s.translation := rfl
@[simp] theorem State.setRecord_bins (b : Nat) (r : BinRecord) :
    (s.setRecord b r).bins = { s.bins with records := s.bins.records.write .vacant b r } := rfl
@[simp] theorem State.setRecord_profiles (b : Nat) (r : BinRecord) :
    (s.setRecord b r).profiles = s.profiles := rfl
@[simp] theorem State.setRecord_slots (b : Nat) (r : BinRecord) :
    (s.setRecord b r).slots = s.slots := rfl
@[simp] theorem State.setRecord_gates (b : Nat) (r : BinRecord) :
    (s.setRecord b r).gates = s.gates := rfl
@[simp] theorem State.setRecord_due (b : Nat) (r : BinRecord) : (s.setRecord b r).due = s.due := rfl
@[simp] theorem State.setRecord_watch (b : Nat) (r : BinRecord) :
    (s.setRecord b r).watch = s.watch := rfl
@[simp] theorem State.setRecord_composer (b : Nat) (r : BinRecord) :
    (s.setRecord b r).composer = s.composer := rfl
@[simp] theorem State.setRecord_management (b : Nat) (r : BinRecord) :
    (s.setRecord b r).management = s.management := rfl
@[simp] theorem State.setRecord_store (b : Nat) (r : BinRecord) :
    (s.setRecord b r).store = s.store := rfl
@[simp] theorem State.setRecord_inForce (b : Nat) (r : BinRecord) :
    (s.setRecord b r).inForce = s.inForce := rfl
@[simp] theorem State.setRecord_drawn (b : Nat) (r : BinRecord) :
    (s.setRecord b r).drawn = s.drawn := rfl

@[simp] theorem State.setAssigned_pending (b : Nat) (a : Option Assigned) :
    (s.setAssigned b a).pending = s.pending := rfl
@[simp] theorem State.setAssigned_phase (b : Nat) (a : Option Assigned) :
    (s.setAssigned b a).phase = s.phase := rfl
@[simp] theorem State.setAssigned_resetLine (b : Nat) (a : Option Assigned) :
    (s.setAssigned b a).resetLine = s.resetLine := rfl
@[simp] theorem State.setAssigned_time (b : Nat) (a : Option Assigned) :
    (s.setAssigned b a).time = s.time := rfl
@[simp] theorem State.setAssigned_intake (b : Nat) (a : Option Assigned) :
    (s.setAssigned b a).intake = s.intake := rfl
@[simp] theorem State.setAssigned_translation (b : Nat) (a : Option Assigned) :
    (s.setAssigned b a).translation = s.translation := rfl
@[simp] theorem State.setAssigned_profiles (b : Nat) (a : Option Assigned) :
    (s.setAssigned b a).profiles = s.profiles := rfl
@[simp] theorem State.setAssigned_slots (b : Nat) (a : Option Assigned) :
    (s.setAssigned b a).slots = s.slots := rfl
@[simp] theorem State.setAssigned_gates (b : Nat) (a : Option Assigned) :
    (s.setAssigned b a).gates = s.gates := rfl
@[simp] theorem State.setAssigned_due (b : Nat) (a : Option Assigned) :
    (s.setAssigned b a).due = s.due := rfl
@[simp] theorem State.setAssigned_watch (b : Nat) (a : Option Assigned) :
    (s.setAssigned b a).watch = s.watch := rfl
@[simp] theorem State.setAssigned_composer (b : Nat) (a : Option Assigned) :
    (s.setAssigned b a).composer = s.composer := rfl
@[simp] theorem State.setAssigned_management (b : Nat) (a : Option Assigned) :
    (s.setAssigned b a).management = s.management := rfl
@[simp] theorem State.setAssigned_store (b : Nat) (a : Option Assigned) :
    (s.setAssigned b a).store = s.store := rfl
@[simp] theorem State.setAssigned_inForce (b : Nat) (a : Option Assigned) :
    (s.setAssigned b a).inForce = s.inForce := rfl
@[simp] theorem State.setAssigned_drawn (b : Nat) (a : Option Assigned) :
    (s.setAssigned b a).drawn = s.drawn := rfl

@[simp] theorem State.setUnqueued_pending (b : Nat) (f : Bool) :
    (s.setUnqueued b f).pending = s.pending := rfl
@[simp] theorem State.setUnqueued_phase (b : Nat) (f : Bool) :
    (s.setUnqueued b f).phase = s.phase := rfl
@[simp] theorem State.setUnqueued_resetLine (b : Nat) (f : Bool) :
    (s.setUnqueued b f).resetLine = s.resetLine := rfl
@[simp] theorem State.setUnqueued_time (b : Nat) (f : Bool) :
    (s.setUnqueued b f).time = s.time := rfl
@[simp] theorem State.setUnqueued_intake (b : Nat) (f : Bool) :
    (s.setUnqueued b f).intake = s.intake := rfl
@[simp] theorem State.setUnqueued_translation (b : Nat) (f : Bool) :
    (s.setUnqueued b f).translation = s.translation := rfl
@[simp] theorem State.setUnqueued_profiles (b : Nat) (f : Bool) :
    (s.setUnqueued b f).profiles = s.profiles := rfl
@[simp] theorem State.setUnqueued_slots (b : Nat) (f : Bool) :
    (s.setUnqueued b f).slots = s.slots := rfl
@[simp] theorem State.setUnqueued_gates (b : Nat) (f : Bool) :
    (s.setUnqueued b f).gates = s.gates := rfl
@[simp] theorem State.setUnqueued_due (b : Nat) (f : Bool) : (s.setUnqueued b f).due = s.due := rfl
@[simp] theorem State.setUnqueued_watch (b : Nat) (f : Bool) :
    (s.setUnqueued b f).watch = s.watch := rfl
@[simp] theorem State.setUnqueued_composer (b : Nat) (f : Bool) :
    (s.setUnqueued b f).composer = s.composer := rfl
@[simp] theorem State.setUnqueued_management (b : Nat) (f : Bool) :
    (s.setUnqueued b f).management = s.management := rfl
@[simp] theorem State.setUnqueued_store (b : Nat) (f : Bool) :
    (s.setUnqueued b f).store = s.store := rfl
@[simp] theorem State.setUnqueued_inForce (b : Nat) (f : Bool) :
    (s.setUnqueued b f).inForce = s.inForce := rfl
@[simp] theorem State.setUnqueued_drawn (b : Nat) (f : Bool) :
    (s.setUnqueued b f).drawn = s.drawn := rfl

@[simp] theorem State.setMapped_pending (b : Nat) (e : Option Nat) :
    (s.setMapped b e).pending = s.pending := rfl
@[simp] theorem State.setMapped_phase (b : Nat) (e : Option Nat) :
    (s.setMapped b e).phase = s.phase := rfl
@[simp] theorem State.setMapped_resetLine (b : Nat) (e : Option Nat) :
    (s.setMapped b e).resetLine = s.resetLine := rfl
@[simp] theorem State.setMapped_time (b : Nat) (e : Option Nat) :
    (s.setMapped b e).time = s.time := rfl
@[simp] theorem State.setMapped_intake (b : Nat) (e : Option Nat) :
    (s.setMapped b e).intake = s.intake := rfl
@[simp] theorem State.setMapped_translation (b : Nat) (e : Option Nat) :
    (s.setMapped b e).translation = s.translation := rfl
@[simp] theorem State.setMapped_profiles (b : Nat) (e : Option Nat) :
    (s.setMapped b e).profiles = s.profiles := rfl
@[simp] theorem State.setMapped_slots (b : Nat) (e : Option Nat) :
    (s.setMapped b e).slots = s.slots := rfl
@[simp] theorem State.setMapped_gates (b : Nat) (e : Option Nat) :
    (s.setMapped b e).gates = s.gates := rfl
@[simp] theorem State.setMapped_due (b : Nat) (e : Option Nat) :
    (s.setMapped b e).due = s.due := rfl
@[simp] theorem State.setMapped_watch (b : Nat) (e : Option Nat) :
    (s.setMapped b e).watch = s.watch := rfl
@[simp] theorem State.setMapped_composer (b : Nat) (e : Option Nat) :
    (s.setMapped b e).composer = s.composer := rfl
@[simp] theorem State.setMapped_management (b : Nat) (e : Option Nat) :
    (s.setMapped b e).management = s.management := rfl
@[simp] theorem State.setMapped_store (b : Nat) (e : Option Nat) :
    (s.setMapped b e).store = s.store := rfl
@[simp] theorem State.setMapped_inForce (b : Nat) (e : Option Nat) :
    (s.setMapped b e).inForce = s.inForce := rfl
@[simp] theorem State.setMapped_drawn (b : Nat) (e : Option Nat) :
    (s.setMapped b e).drawn = s.drawn := rfl

@[simp] theorem State.setLearned_pending (b : Nat) (c : Option Int) :
    (s.setLearned b c).pending = s.pending := rfl
@[simp] theorem State.setLearned_phase (b : Nat) (c : Option Int) :
    (s.setLearned b c).phase = s.phase := rfl
@[simp] theorem State.setLearned_resetLine (b : Nat) (c : Option Int) :
    (s.setLearned b c).resetLine = s.resetLine := rfl
@[simp] theorem State.setLearned_time (b : Nat) (c : Option Int) :
    (s.setLearned b c).time = s.time := rfl
@[simp] theorem State.setLearned_intake (b : Nat) (c : Option Int) :
    (s.setLearned b c).intake = s.intake := rfl
@[simp] theorem State.setLearned_translation (b : Nat) (c : Option Int) :
    (s.setLearned b c).translation = s.translation := rfl
@[simp] theorem State.setLearned_bins (b : Nat) (c : Option Int) :
    (s.setLearned b c).bins = { s.bins with calibration := s.bins.calibration.set b c } := rfl
@[simp] theorem State.setLearned_profiles (b : Nat) (c : Option Int) :
    (s.setLearned b c).profiles = s.profiles := rfl
@[simp] theorem State.setLearned_slots (b : Nat) (c : Option Int) :
    (s.setLearned b c).slots = s.slots := rfl
@[simp] theorem State.setLearned_gates (b : Nat) (c : Option Int) :
    (s.setLearned b c).gates = s.gates := rfl
@[simp] theorem State.setLearned_due (b : Nat) (c : Option Int) :
    (s.setLearned b c).due = s.due := rfl
@[simp] theorem State.setLearned_watch (b : Nat) (c : Option Int) :
    (s.setLearned b c).watch = s.watch := rfl
@[simp] theorem State.setLearned_composer (b : Nat) (c : Option Int) :
    (s.setLearned b c).composer = s.composer := rfl
@[simp] theorem State.setLearned_management (b : Nat) (c : Option Int) :
    (s.setLearned b c).management = s.management := rfl
@[simp] theorem State.setLearned_store (b : Nat) (c : Option Int) :
    (s.setLearned b c).store = s.store := rfl
@[simp] theorem State.setLearned_inForce (b : Nat) (c : Option Int) :
    (s.setLearned b c).inForce = s.inForce := rfl
@[simp] theorem State.setLearned_drawn (b : Nat) (c : Option Int) :
    (s.setLearned b c).drawn = s.drawn := rfl

@[simp] theorem State.raiseGroup_pending (es : List Event) :
    (s.raiseGroup es).pending = s.pending := rfl
@[simp] theorem State.raiseGroup_phase (es : List Event) : (s.raiseGroup es).phase = s.phase := rfl
@[simp] theorem State.raiseGroup_resetLine (es : List Event) :
    (s.raiseGroup es).resetLine = s.resetLine := rfl
@[simp] theorem State.raiseGroup_time (es : List Event) : (s.raiseGroup es).time = s.time := rfl
@[simp] theorem State.raiseGroup_intake (es : List Event) :
    (s.raiseGroup es).intake = s.intake := rfl
@[simp] theorem State.raiseGroup_translation (es : List Event) :
    (s.raiseGroup es).translation = s.translation := rfl
@[simp] theorem State.raiseGroup_bins (es : List Event) : (s.raiseGroup es).bins = s.bins := rfl
@[simp] theorem State.raiseGroup_profiles (es : List Event) :
    (s.raiseGroup es).profiles = s.profiles := rfl
@[simp] theorem State.raiseGroup_slots (es : List Event) : (s.raiseGroup es).slots = s.slots := rfl
@[simp] theorem State.raiseGroup_gates (es : List Event) : (s.raiseGroup es).gates = s.gates := rfl
@[simp] theorem State.raiseGroup_due (es : List Event) : (s.raiseGroup es).due = s.due := rfl
@[simp] theorem State.raiseGroup_watch (es : List Event) :
    (s.raiseGroup es).watch = s.watch.takeGroup s.time es := rfl
@[simp] theorem State.raiseGroup_composer (es : List Event) :
    (s.raiseGroup es).composer = s.composer := rfl
@[simp] theorem State.raiseGroup_management (es : List Event) :
    (s.raiseGroup es).management = s.management := rfl
@[simp] theorem State.raiseGroup_store (es : List Event) : (s.raiseGroup es).store = s.store := rfl
@[simp] theorem State.raiseGroup_inForce (es : List Event) :
    (s.raiseGroup es).inForce = s.inForce := rfl
@[simp] theorem State.raiseGroup_drawn (es : List Event) : (s.raiseGroup es).drawn = s.drawn := rfl

@[simp] theorem State.raise_pending (e : Event) : (s.raise e).pending = s.pending := rfl
@[simp] theorem State.raise_phase (e : Event) : (s.raise e).phase = s.phase := rfl
@[simp] theorem State.raise_resetLine (e : Event) : (s.raise e).resetLine = s.resetLine := rfl
@[simp] theorem State.raise_time (e : Event) : (s.raise e).time = s.time := rfl
@[simp] theorem State.raise_intake (e : Event) : (s.raise e).intake = s.intake := rfl
@[simp] theorem State.raise_translation (e : Event) : (s.raise e).translation = s.translation := rfl
@[simp] theorem State.raise_bins (e : Event) : (s.raise e).bins = s.bins := rfl
@[simp] theorem State.raise_profiles (e : Event) : (s.raise e).profiles = s.profiles := rfl
@[simp] theorem State.raise_slots (e : Event) : (s.raise e).slots = s.slots := rfl
@[simp] theorem State.raise_gates (e : Event) : (s.raise e).gates = s.gates := rfl
@[simp] theorem State.raise_due (e : Event) : (s.raise e).due = s.due := rfl
@[simp] theorem State.raise_watch (e : Event) :
    (s.raise e).watch = s.watch.takeGroup s.time [e] := rfl
@[simp] theorem State.raise_composer (e : Event) : (s.raise e).composer = s.composer := rfl
@[simp] theorem State.raise_management (e : Event) : (s.raise e).management = s.management := rfl
@[simp] theorem State.raise_store (e : Event) : (s.raise e).store = s.store := rfl
@[simp] theorem State.raise_inForce (e : Event) : (s.raise e).inForce = s.inForce := rfl
@[simp] theorem State.raise_drawn (e : Event) : (s.raise e).drawn = s.drawn := rfl

@[simp] theorem State.raiseLinkFault_pending (d : LinkDetail) :
    (s.raiseLinkFault d).pending = s.pending := rfl
@[simp] theorem State.raiseLinkFault_phase (d : LinkDetail) :
    (s.raiseLinkFault d).phase = s.phase := rfl
@[simp] theorem State.raiseLinkFault_resetLine (d : LinkDetail) :
    (s.raiseLinkFault d).resetLine = s.resetLine := rfl
@[simp] theorem State.raiseLinkFault_time (d : LinkDetail) :
    (s.raiseLinkFault d).time = s.time := rfl
@[simp] theorem State.raiseLinkFault_intake (d : LinkDetail) :
    (s.raiseLinkFault d).intake = s.intake := rfl
@[simp] theorem State.raiseLinkFault_translation (d : LinkDetail) :
    (s.raiseLinkFault d).translation = s.translation := rfl
@[simp] theorem State.raiseLinkFault_bins (d : LinkDetail) :
    (s.raiseLinkFault d).bins = s.bins := rfl
@[simp] theorem State.raiseLinkFault_profiles (d : LinkDetail) :
    (s.raiseLinkFault d).profiles = s.profiles := rfl
@[simp] theorem State.raiseLinkFault_slots (d : LinkDetail) :
    (s.raiseLinkFault d).slots = s.slots := rfl
@[simp] theorem State.raiseLinkFault_gates (d : LinkDetail) :
    (s.raiseLinkFault d).gates = s.gates := rfl
@[simp] theorem State.raiseLinkFault_due (d : LinkDetail) : (s.raiseLinkFault d).due = s.due := rfl
@[simp] theorem State.raiseLinkFault_composer (d : LinkDetail) :
    (s.raiseLinkFault d).composer = s.composer := rfl
@[simp] theorem State.raiseLinkFault_management (d : LinkDetail) :
    (s.raiseLinkFault d).management = s.management := rfl
@[simp] theorem State.raiseLinkFault_store (d : LinkDetail) :
    (s.raiseLinkFault d).store = s.store := rfl
@[simp] theorem State.raiseLinkFault_inForce (d : LinkDetail) :
    (s.raiseLinkFault d).inForce = s.inForce := rfl
@[simp] theorem State.raiseLinkFault_drawn (d : LinkDetail) :
    (s.raiseLinkFault d).drawn = s.drawn := rfl

@[simp] theorem State.tallyOutcome_pending (row : Nat) (o : OutcomeCode) :
    (s.tallyOutcome row o).pending = s.pending := rfl
@[simp] theorem State.tallyOutcome_phase (row : Nat) (o : OutcomeCode) :
    (s.tallyOutcome row o).phase = s.phase := rfl
@[simp] theorem State.tallyOutcome_resetLine (row : Nat) (o : OutcomeCode) :
    (s.tallyOutcome row o).resetLine = s.resetLine := rfl
@[simp] theorem State.tallyOutcome_time (row : Nat) (o : OutcomeCode) :
    (s.tallyOutcome row o).time = s.time := rfl
@[simp] theorem State.tallyOutcome_intake (row : Nat) (o : OutcomeCode) :
    (s.tallyOutcome row o).intake = s.intake := rfl
@[simp] theorem State.tallyOutcome_translation (row : Nat) (o : OutcomeCode) :
    (s.tallyOutcome row o).translation = s.translation := rfl
@[simp] theorem State.tallyOutcome_bins (row : Nat) (o : OutcomeCode) :
    (s.tallyOutcome row o).bins = s.bins := rfl
@[simp] theorem State.tallyOutcome_profiles (row : Nat) (o : OutcomeCode) :
    (s.tallyOutcome row o).profiles = s.profiles := rfl
@[simp] theorem State.tallyOutcome_slots (row : Nat) (o : OutcomeCode) :
    (s.tallyOutcome row o).slots = s.slots := rfl
@[simp] theorem State.tallyOutcome_gates (row : Nat) (o : OutcomeCode) :
    (s.tallyOutcome row o).gates = s.gates.tallyUp row o.place := rfl
@[simp] theorem State.tallyOutcome_due (row : Nat) (o : OutcomeCode) :
    (s.tallyOutcome row o).due = s.due := rfl
@[simp] theorem State.tallyOutcome_watch (row : Nat) (o : OutcomeCode) :
    (s.tallyOutcome row o).watch = s.watch := rfl
@[simp] theorem State.tallyOutcome_composer (row : Nat) (o : OutcomeCode) :
    (s.tallyOutcome row o).composer = s.composer := rfl
@[simp] theorem State.tallyOutcome_management (row : Nat) (o : OutcomeCode) :
    (s.tallyOutcome row o).management = s.management := rfl
@[simp] theorem State.tallyOutcome_store (row : Nat) (o : OutcomeCode) :
    (s.tallyOutcome row o).store = s.store := rfl
@[simp] theorem State.tallyOutcome_inForce (row : Nat) (o : OutcomeCode) :
    (s.tallyOutcome row o).inForce = s.inForce := rfl
@[simp] theorem State.tallyOutcome_drawn (row : Nat) (o : OutcomeCode) :
    (s.tallyOutcome row o).drawn = s.drawn := rfl

@[simp] theorem State.placeDue_pending (e : DueEntry) (q : List DueEntry) :
    (s.placeDue e q).pending = s.pending := rfl
@[simp] theorem State.placeDue_phase (e : DueEntry) (q : List DueEntry) :
    (s.placeDue e q).phase = s.phase := rfl
@[simp] theorem State.placeDue_resetLine (e : DueEntry) (q : List DueEntry) :
    (s.placeDue e q).resetLine = s.resetLine := rfl
@[simp] theorem State.placeDue_time (e : DueEntry) (q : List DueEntry) :
    (s.placeDue e q).time = s.time := rfl
@[simp] theorem State.placeDue_intake (e : DueEntry) (q : List DueEntry) :
    (s.placeDue e q).intake = s.intake := rfl
@[simp] theorem State.placeDue_translation (e : DueEntry) (q : List DueEntry) :
    (s.placeDue e q).translation = s.translation := rfl
@[simp] theorem State.placeDue_profiles (e : DueEntry) (q : List DueEntry) :
    (s.placeDue e q).profiles = s.profiles := rfl
@[simp] theorem State.placeDue_slots (e : DueEntry) (q : List DueEntry) :
    (s.placeDue e q).slots = s.slots := rfl
@[simp] theorem State.placeDue_gates (e : DueEntry) (q : List DueEntry) :
    (s.placeDue e q).gates = s.gates := rfl
@[simp] theorem State.placeDue_due (e : DueEntry) (q : List DueEntry) :
    (s.placeDue e q).due = insertDue e q := rfl
@[simp] theorem State.placeDue_watch (e : DueEntry) (q : List DueEntry) :
    (s.placeDue e q).watch = s.watch := rfl
@[simp] theorem State.placeDue_composer (e : DueEntry) (q : List DueEntry) :
    (s.placeDue e q).composer = s.composer := rfl
@[simp] theorem State.placeDue_management (e : DueEntry) (q : List DueEntry) :
    (s.placeDue e q).management = s.management := rfl
@[simp] theorem State.placeDue_store (e : DueEntry) (q : List DueEntry) :
    (s.placeDue e q).store = s.store := rfl
@[simp] theorem State.placeDue_inForce (e : DueEntry) (q : List DueEntry) :
    (s.placeDue e q).inForce = s.inForce := rfl
@[simp] theorem State.placeDue_drawn (e : DueEntry) (q : List DueEntry) :
    (s.placeDue e q).drawn = s.drawn := rfl

@[simp] theorem State.handRemoval_pending (b : Nat) : (s.handRemoval b).pending = s.pending := rfl
@[simp] theorem State.handRemoval_phase (b : Nat) : (s.handRemoval b).phase = s.phase := rfl
@[simp] theorem State.handRemoval_resetLine (b : Nat) :
    (s.handRemoval b).resetLine = s.resetLine := rfl
@[simp] theorem State.handRemoval_time (b : Nat) : (s.handRemoval b).time = s.time := rfl
@[simp] theorem State.handRemoval_intake (b : Nat) : (s.handRemoval b).intake = s.intake := rfl
@[simp] theorem State.handRemoval_translation (b : Nat) :
    (s.handRemoval b).translation = s.translation := rfl
@[simp] theorem State.handRemoval_profiles (b : Nat) :
    (s.handRemoval b).profiles = s.profiles := rfl
@[simp] theorem State.handRemoval_slots (b : Nat) : (s.handRemoval b).slots = s.slots := rfl
@[simp] theorem State.handRemoval_gates (b : Nat) : (s.handRemoval b).gates = s.gates := rfl
@[simp] theorem State.handRemoval_due (b : Nat) : (s.handRemoval b).due = dropDue b s.due := rfl
@[simp] theorem State.handRemoval_watch (b : Nat) : (s.handRemoval b).watch = s.watch := rfl
@[simp] theorem State.handRemoval_composer (b : Nat) :
    (s.handRemoval b).composer = s.composer := rfl
@[simp] theorem State.handRemoval_management (b : Nat) :
    (s.handRemoval b).management = s.management := rfl
@[simp] theorem State.handRemoval_store (b : Nat) : (s.handRemoval b).store = s.store := rfl
@[simp] theorem State.handRemoval_inForce (b : Nat) : (s.handRemoval b).inForce = s.inForce := rfl
@[simp] theorem State.handRemoval_drawn (b : Nat) : (s.handRemoval b).drawn = s.drawn := rfl

@[simp] theorem State.handSilent_pending (b : Nat) (f : Bool) :
    (s.handSilent b f).pending = s.pending := rfl
@[simp] theorem State.handSilent_phase (b : Nat) (f : Bool) :
    (s.handSilent b f).phase = s.phase := rfl
@[simp] theorem State.handSilent_resetLine (b : Nat) (f : Bool) :
    (s.handSilent b f).resetLine = s.resetLine := rfl
@[simp] theorem State.handSilent_time (b : Nat) (f : Bool) : (s.handSilent b f).time = s.time := rfl
@[simp] theorem State.handSilent_intake (b : Nat) (f : Bool) :
    (s.handSilent b f).intake = s.intake := rfl
@[simp] theorem State.handSilent_translation (b : Nat) (f : Bool) :
    (s.handSilent b f).translation = s.translation := rfl
@[simp] theorem State.handSilent_bins (b : Nat) (f : Bool) : (s.handSilent b f).bins = s.bins := rfl
@[simp] theorem State.handSilent_profiles (b : Nat) (f : Bool) :
    (s.handSilent b f).profiles = s.profiles := rfl
@[simp] theorem State.handSilent_slots (b : Nat) (f : Bool) :
    (s.handSilent b f).slots = s.slots := rfl
@[simp] theorem State.handSilent_gates (b : Nat) (f : Bool) :
    (s.handSilent b f).gates = s.gates := rfl
@[simp] theorem State.handSilent_due (b : Nat) (f : Bool) :
    (s.handSilent b f).due = s.due.map fun e => if e.bin = b then { e with silent := f } else e := rfl
@[simp] theorem State.handSilent_watch (b : Nat) (f : Bool) :
    (s.handSilent b f).watch = s.watch := rfl
@[simp] theorem State.handSilent_composer (b : Nat) (f : Bool) :
    (s.handSilent b f).composer = s.composer := rfl
@[simp] theorem State.handSilent_management (b : Nat) (f : Bool) :
    (s.handSilent b f).management = s.management := rfl
@[simp] theorem State.handSilent_store (b : Nat) (f : Bool) :
    (s.handSilent b f).store = s.store := rfl
@[simp] theorem State.handSilent_inForce (b : Nat) (f : Bool) :
    (s.handSilent b f).inForce = s.inForce := rfl
@[simp] theorem State.handSilent_drawn (b : Nat) (f : Bool) :
    (s.handSilent b f).drawn = s.drawn := rfl

@[simp] theorem State.handDistrict_pending (b d : Nat) :
    (s.handDistrict b d).pending = s.pending := rfl
@[simp] theorem State.handDistrict_phase (b d : Nat) : (s.handDistrict b d).phase = s.phase := rfl
@[simp] theorem State.handDistrict_resetLine (b d : Nat) :
    (s.handDistrict b d).resetLine = s.resetLine := rfl
@[simp] theorem State.handDistrict_time (b d : Nat) : (s.handDistrict b d).time = s.time := rfl
@[simp] theorem State.handDistrict_intake (b d : Nat) :
    (s.handDistrict b d).intake = s.intake := rfl
@[simp] theorem State.handDistrict_translation (b d : Nat) :
    (s.handDistrict b d).translation = s.translation := rfl
@[simp] theorem State.handDistrict_bins (b d : Nat) : (s.handDistrict b d).bins = s.bins := rfl
@[simp] theorem State.handDistrict_profiles (b d : Nat) :
    (s.handDistrict b d).profiles = s.profiles := rfl
@[simp] theorem State.handDistrict_slots (b d : Nat) : (s.handDistrict b d).slots = s.slots := rfl
@[simp] theorem State.handDistrict_gates (b d : Nat) : (s.handDistrict b d).gates = s.gates := rfl
@[simp] theorem State.handDistrict_due (b d : Nat) :
    (s.handDistrict b d).due = s.due.map fun e => if e.bin = b then { e with district := d } else e := rfl
@[simp] theorem State.handDistrict_watch (b d : Nat) : (s.handDistrict b d).watch = s.watch := rfl
@[simp] theorem State.handDistrict_composer (b d : Nat) :
    (s.handDistrict b d).composer = s.composer := rfl
@[simp] theorem State.handDistrict_management (b d : Nat) :
    (s.handDistrict b d).management = s.management := rfl
@[simp] theorem State.handDistrict_store (b d : Nat) : (s.handDistrict b d).store = s.store := rfl
@[simp] theorem State.handDistrict_inForce (b d : Nat) :
    (s.handDistrict b d).inForce = s.inForce := rfl
@[simp] theorem State.handDistrict_drawn (b d : Nat) : (s.handDistrict b d).drawn = s.drawn := rfl

@[simp] theorem State.joinAdmission_pending (f : Frame) : (s.joinAdmission f).pending = s.pending := rfl
@[simp] theorem State.joinAdmission_phase (f : Frame) : (s.joinAdmission f).phase = s.phase := rfl
@[simp] theorem State.joinAdmission_resetLine (f : Frame) : (s.joinAdmission f).resetLine = s.resetLine := rfl
@[simp] theorem State.joinAdmission_time (f : Frame) : (s.joinAdmission f).time = s.time := rfl
@[simp] theorem State.joinAdmission_intake (f : Frame) :
    (s.joinAdmission f).intake = { s.intake with admission := s.intake.admission ++ [f] } := rfl
@[simp] theorem State.joinAdmission_translation (f : Frame) : (s.joinAdmission f).translation = s.translation := rfl
@[simp] theorem State.joinAdmission_bins (f : Frame) : (s.joinAdmission f).bins = s.bins := rfl
@[simp] theorem State.joinAdmission_profiles (f : Frame) : (s.joinAdmission f).profiles = s.profiles := rfl
@[simp] theorem State.joinAdmission_slots (f : Frame) : (s.joinAdmission f).slots = s.slots := rfl
@[simp] theorem State.joinAdmission_gates (f : Frame) : (s.joinAdmission f).gates = s.gates := rfl
@[simp] theorem State.joinAdmission_due (f : Frame) : (s.joinAdmission f).due = s.due := rfl
@[simp] theorem State.joinAdmission_watch (f : Frame) : (s.joinAdmission f).watch = s.watch := rfl
@[simp] theorem State.joinAdmission_composer (f : Frame) : (s.joinAdmission f).composer = s.composer := rfl
@[simp] theorem State.joinAdmission_management (f : Frame) : (s.joinAdmission f).management = s.management := rfl
@[simp] theorem State.joinAdmission_store (f : Frame) : (s.joinAdmission f).store = s.store := rfl
@[simp] theorem State.joinAdmission_inForce (f : Frame) : (s.joinAdmission f).inForce = s.inForce := rfl
@[simp] theorem State.joinAdmission_drawn (f : Frame) : (s.joinAdmission f).drawn = s.drawn := rfl

@[simp] theorem State.endFrame_pending (cls : WatchClass) (row : Nat) (bin : Option Nat) (payload : List Byte) (o : OutcomeCode) :
    (s.endFrame cls row bin payload o).pending = s.pending := rfl
@[simp] theorem State.endFrame_phase (cls : WatchClass) (row : Nat) (bin : Option Nat) (payload : List Byte) (o : OutcomeCode) :
    (s.endFrame cls row bin payload o).phase = s.phase := rfl
@[simp] theorem State.endFrame_resetLine (cls : WatchClass) (row : Nat) (bin : Option Nat) (payload : List Byte) (o : OutcomeCode) :
    (s.endFrame cls row bin payload o).resetLine = s.resetLine := rfl
@[simp] theorem State.endFrame_time (cls : WatchClass) (row : Nat) (bin : Option Nat) (payload : List Byte) (o : OutcomeCode) :
    (s.endFrame cls row bin payload o).time = s.time := rfl
@[simp] theorem State.endFrame_intake (cls : WatchClass) (row : Nat) (bin : Option Nat) (payload : List Byte) (o : OutcomeCode) :
    (s.endFrame cls row bin payload o).intake = s.intake := rfl
@[simp] theorem State.endFrame_translation (cls : WatchClass) (row : Nat) (bin : Option Nat) (payload : List Byte) (o : OutcomeCode) :
    (s.endFrame cls row bin payload o).translation = s.translation := rfl
@[simp] theorem State.endFrame_bins (cls : WatchClass) (row : Nat) (bin : Option Nat) (payload : List Byte) (o : OutcomeCode) :
    (s.endFrame cls row bin payload o).bins = s.bins := rfl
@[simp] theorem State.endFrame_profiles (cls : WatchClass) (row : Nat) (bin : Option Nat) (payload : List Byte) (o : OutcomeCode) :
    (s.endFrame cls row bin payload o).profiles = s.profiles := rfl
@[simp] theorem State.endFrame_slots (cls : WatchClass) (row : Nat) (bin : Option Nat) (payload : List Byte) (o : OutcomeCode) :
    (s.endFrame cls row bin payload o).slots = s.slots := rfl
@[simp] theorem State.endFrame_gates (cls : WatchClass) (row : Nat) (bin : Option Nat) (payload : List Byte) (o : OutcomeCode) :
    (s.endFrame cls row bin payload o).gates = s.gates.tallyUp row o.place := rfl
@[simp] theorem State.endFrame_due (cls : WatchClass) (row : Nat) (bin : Option Nat) (payload : List Byte) (o : OutcomeCode) :
    (s.endFrame cls row bin payload o).due = s.due := rfl
@[simp] theorem State.endFrame_watch (cls : WatchClass) (row : Nat) (bin : Option Nat) (payload : List Byte) (o : OutcomeCode) :
    (s.endFrame cls row bin payload o).watch = s.watch.takeGroup s.time [frameEvent cls row bin payload o] := rfl
@[simp] theorem State.endFrame_composer (cls : WatchClass) (row : Nat) (bin : Option Nat) (payload : List Byte) (o : OutcomeCode) :
    (s.endFrame cls row bin payload o).composer = s.composer := rfl
@[simp] theorem State.endFrame_management (cls : WatchClass) (row : Nat) (bin : Option Nat) (payload : List Byte) (o : OutcomeCode) :
    (s.endFrame cls row bin payload o).management = s.management := rfl
@[simp] theorem State.endFrame_store (cls : WatchClass) (row : Nat) (bin : Option Nat) (payload : List Byte) (o : OutcomeCode) :
    (s.endFrame cls row bin payload o).store = s.store := rfl
@[simp] theorem State.endFrame_inForce (cls : WatchClass) (row : Nat) (bin : Option Nat) (payload : List Byte) (o : OutcomeCode) :
    (s.endFrame cls row bin payload o).inForce = s.inForce := rfl
@[simp] theorem State.endFrame_drawn (cls : WatchClass) (row : Nat) (bin : Option Nat) (payload : List Byte) (o : OutcomeCode) :
    (s.endFrame cls row bin payload o).drawn = s.drawn := rfl

@[simp] theorem State.endFormat_pending (payload : List Byte) (d : FormDetail) :
    (s.endFormat payload d).pending = s.pending := rfl
@[simp] theorem State.endFormat_phase (payload : List Byte) (d : FormDetail) :
    (s.endFormat payload d).phase = s.phase := rfl
@[simp] theorem State.endFormat_resetLine (payload : List Byte) (d : FormDetail) :
    (s.endFormat payload d).resetLine = s.resetLine := rfl
@[simp] theorem State.endFormat_time (payload : List Byte) (d : FormDetail) :
    (s.endFormat payload d).time = s.time := rfl
@[simp] theorem State.endFormat_intake (payload : List Byte) (d : FormDetail) :
    (s.endFormat payload d).intake = s.intake := rfl
@[simp] theorem State.endFormat_translation (payload : List Byte) (d : FormDetail) :
    (s.endFormat payload d).translation = s.translation := rfl
@[simp] theorem State.endFormat_bins (payload : List Byte) (d : FormDetail) :
    (s.endFormat payload d).bins = s.bins := rfl
@[simp] theorem State.endFormat_profiles (payload : List Byte) (d : FormDetail) :
    (s.endFormat payload d).profiles = s.profiles := rfl
@[simp] theorem State.endFormat_slots (payload : List Byte) (d : FormDetail) :
    (s.endFormat payload d).slots = s.slots := rfl
@[simp] theorem State.endFormat_gates (payload : List Byte) (d : FormDetail) :
    (s.endFormat payload d).gates = s.gates.tallyUp unplacedRow OutcomeCode.format.place := rfl
@[simp] theorem State.endFormat_due (payload : List Byte) (d : FormDetail) :
    (s.endFormat payload d).due = s.due := rfl
@[simp] theorem State.endFormat_composer (payload : List Byte) (d : FormDetail) :
    (s.endFormat payload d).composer = s.composer := rfl
@[simp] theorem State.endFormat_management (payload : List Byte) (d : FormDetail) :
    (s.endFormat payload d).management = s.management := rfl
@[simp] theorem State.endFormat_store (payload : List Byte) (d : FormDetail) :
    (s.endFormat payload d).store = s.store := rfl
@[simp] theorem State.endFormat_inForce (payload : List Byte) (d : FormDetail) :
    (s.endFormat payload d).inForce = s.inForce := rfl
@[simp] theorem State.endFormat_drawn (payload : List Byte) (d : FormDetail) :
    (s.endFormat payload d).drawn = s.drawn := rfl

@[simp] theorem State.setWindow_pending (w : List MergeEntry) :
    (s.setWindow w).pending = s.pending := rfl
@[simp] theorem State.setWindow_phase (w : List MergeEntry) : (s.setWindow w).phase = s.phase := rfl
@[simp] theorem State.setWindow_resetLine (w : List MergeEntry) :
    (s.setWindow w).resetLine = s.resetLine := rfl
@[simp] theorem State.setWindow_time (w : List MergeEntry) : (s.setWindow w).time = s.time := rfl
@[simp] theorem State.setWindow_intake (w : List MergeEntry) :
    (s.setWindow w).intake = { s.intake with window := w } := rfl
@[simp] theorem State.setWindow_translation (w : List MergeEntry) :
    (s.setWindow w).translation = s.translation := rfl
@[simp] theorem State.setWindow_bins (w : List MergeEntry) : (s.setWindow w).bins = s.bins := rfl
@[simp] theorem State.setWindow_profiles (w : List MergeEntry) :
    (s.setWindow w).profiles = s.profiles := rfl
@[simp] theorem State.setWindow_slots (w : List MergeEntry) : (s.setWindow w).slots = s.slots := rfl
@[simp] theorem State.setWindow_gates (w : List MergeEntry) : (s.setWindow w).gates = s.gates := rfl
@[simp] theorem State.setWindow_due (w : List MergeEntry) : (s.setWindow w).due = s.due := rfl
@[simp] theorem State.setWindow_watch (w : List MergeEntry) : (s.setWindow w).watch = s.watch := rfl
@[simp] theorem State.setWindow_composer (w : List MergeEntry) :
    (s.setWindow w).composer = s.composer := rfl
@[simp] theorem State.setWindow_management (w : List MergeEntry) :
    (s.setWindow w).management = s.management := rfl
@[simp] theorem State.setWindow_store (w : List MergeEntry) : (s.setWindow w).store = s.store := rfl
@[simp] theorem State.setWindow_inForce (w : List MergeEntry) :
    (s.setWindow w).inForce = s.inForce := rfl
@[simp] theorem State.setWindow_drawn (w : List MergeEntry) : (s.setWindow w).drawn = s.drawn := rfl

@[simp] theorem State.moveDeferred_pending (d : DeferredFrame) :
    (s.moveDeferred d).pending = s.pending := rfl
@[simp] theorem State.moveDeferred_phase (d : DeferredFrame) :
    (s.moveDeferred d).phase = s.phase := rfl
@[simp] theorem State.moveDeferred_resetLine (d : DeferredFrame) :
    (s.moveDeferred d).resetLine = s.resetLine := rfl
@[simp] theorem State.moveDeferred_time (d : DeferredFrame) :
    (s.moveDeferred d).time = s.time := rfl
@[simp] theorem State.moveDeferred_intake (d : DeferredFrame) :
    (s.moveDeferred d).intake = { s.intake with admission := s.intake.admission ++ [d.frame] } := rfl
@[simp] theorem State.moveDeferred_translation (d : DeferredFrame) :
    (s.moveDeferred d).translation = s.translation := rfl
@[simp] theorem State.moveDeferred_bins (d : DeferredFrame) :
    (s.moveDeferred d).bins = s.bins := rfl
@[simp] theorem State.moveDeferred_profiles (d : DeferredFrame) :
    (s.moveDeferred d).profiles = s.profiles := rfl
@[simp] theorem State.moveDeferred_slots (d : DeferredFrame) :
    (s.moveDeferred d).slots = s.slots := rfl
@[simp] theorem State.moveDeferred_gates (d : DeferredFrame) :
    (s.moveDeferred d).gates = { s.gates with deferred := s.gates.deferred.eraseP s.deferredOpen } := rfl
@[simp] theorem State.moveDeferred_due (d : DeferredFrame) : (s.moveDeferred d).due = s.due := rfl
@[simp] theorem State.moveDeferred_watch (d : DeferredFrame) :
    (s.moveDeferred d).watch = s.watch := rfl
@[simp] theorem State.moveDeferred_composer (d : DeferredFrame) :
    (s.moveDeferred d).composer = s.composer := rfl
@[simp] theorem State.moveDeferred_management (d : DeferredFrame) :
    (s.moveDeferred d).management = s.management := rfl
@[simp] theorem State.moveDeferred_store (d : DeferredFrame) :
    (s.moveDeferred d).store = s.store := rfl
@[simp] theorem State.moveDeferred_inForce (d : DeferredFrame) :
    (s.moveDeferred d).inForce = s.inForce := rfl
@[simp] theorem State.moveDeferred_drawn (d : DeferredFrame) :
    (s.moveDeferred d).drawn = s.drawn := rfl

@[simp] theorem State.takeAdmitted_pending : (s.takeAdmitted).pending = s.pending := rfl
@[simp] theorem State.takeAdmitted_phase : (s.takeAdmitted).phase = s.phase := rfl
@[simp] theorem State.takeAdmitted_resetLine : (s.takeAdmitted).resetLine = s.resetLine := rfl
@[simp] theorem State.takeAdmitted_time : (s.takeAdmitted).time = s.time := rfl
@[simp] theorem State.takeAdmitted_intake :
    (s.takeAdmitted).intake = { s.intake with admission := s.intake.admission.eraseP s.eligible } := rfl
@[simp] theorem State.takeAdmitted_translation : (s.takeAdmitted).translation = s.translation := rfl
@[simp] theorem State.takeAdmitted_bins : (s.takeAdmitted).bins = s.bins := rfl
@[simp] theorem State.takeAdmitted_profiles : (s.takeAdmitted).profiles = s.profiles := rfl
@[simp] theorem State.takeAdmitted_slots : (s.takeAdmitted).slots = s.slots := rfl
@[simp] theorem State.takeAdmitted_gates : (s.takeAdmitted).gates = s.gates := rfl
@[simp] theorem State.takeAdmitted_due : (s.takeAdmitted).due = s.due := rfl
@[simp] theorem State.takeAdmitted_watch : (s.takeAdmitted).watch = s.watch := rfl
@[simp] theorem State.takeAdmitted_composer : (s.takeAdmitted).composer = s.composer := rfl
@[simp] theorem State.takeAdmitted_management : (s.takeAdmitted).management = s.management := rfl
@[simp] theorem State.takeAdmitted_store : (s.takeAdmitted).store = s.store := rfl
@[simp] theorem State.takeAdmitted_inForce : (s.takeAdmitted).inForce = s.inForce := rfl
@[simp] theorem State.takeAdmitted_drawn : (s.takeAdmitted).drawn = s.drawn := rfl

@[simp] theorem State.occupy_pending (f : Frame) (d : Nat) (g : Option Nat) :
    (s.occupy f d g).pending = s.pending := rfl
@[simp] theorem State.occupy_phase (f : Frame) (d : Nat) (g : Option Nat) :
    (s.occupy f d g).phase = s.phase := rfl
@[simp] theorem State.occupy_resetLine (f : Frame) (d : Nat) (g : Option Nat) :
    (s.occupy f d g).resetLine = s.resetLine := rfl
@[simp] theorem State.occupy_time (f : Frame) (d : Nat) (g : Option Nat) :
    (s.occupy f d g).time = s.time := rfl
@[simp] theorem State.occupy_intake (f : Frame) (d : Nat) (g : Option Nat) :
    (s.occupy f d g).intake = s.intake := rfl
@[simp] theorem State.occupy_translation (f : Frame) (d : Nat) (g : Option Nat) :
    (s.occupy f d g).translation = s.translation := rfl
@[simp] theorem State.occupy_bins (f : Frame) (d : Nat) (g : Option Nat) :
    (s.occupy f d g).bins = s.bins := rfl
@[simp] theorem State.occupy_profiles (f : Frame) (d : Nat) (g : Option Nat) :
    (s.occupy f d g).profiles = s.profiles := rfl
@[simp] theorem State.occupy_slots (f : Frame) (d : Nat) (g : Option Nat) :
    (s.occupy f d g).slots = s.slots ++ [{ frame := f, district := d, gap := g }] := rfl
@[simp] theorem State.occupy_gates (f : Frame) (d : Nat) (g : Option Nat) :
    (s.occupy f d g).gates = s.gates.setCount d (s.gates.count d + 1) := rfl
@[simp] theorem State.occupy_due (f : Frame) (d : Nat) (g : Option Nat) :
    (s.occupy f d g).due = s.due := rfl
@[simp] theorem State.occupy_watch (f : Frame) (d : Nat) (g : Option Nat) :
    (s.occupy f d g).watch = s.watch := rfl
@[simp] theorem State.occupy_composer (f : Frame) (d : Nat) (g : Option Nat) :
    (s.occupy f d g).composer = s.composer := rfl
@[simp] theorem State.occupy_management (f : Frame) (d : Nat) (g : Option Nat) :
    (s.occupy f d g).management = s.management := rfl
@[simp] theorem State.occupy_store (f : Frame) (d : Nat) (g : Option Nat) :
    (s.occupy f d g).store = s.store := rfl
@[simp] theorem State.occupy_inForce (f : Frame) (d : Nat) (g : Option Nat) :
    (s.occupy f d g).inForce = s.inForce := rfl
@[simp] theorem State.occupy_drawn (f : Frame) (d : Nat) (g : Option Nat) :
    (s.occupy f d g).drawn = s.drawn := rfl

@[simp] theorem State.vacate_pending (e : Estimate) : (s.vacate e).pending = s.pending := rfl
@[simp] theorem State.vacate_phase (e : Estimate) : (s.vacate e).phase = s.phase := rfl
@[simp] theorem State.vacate_resetLine (e : Estimate) : (s.vacate e).resetLine = s.resetLine := rfl
@[simp] theorem State.vacate_time (e : Estimate) : (s.vacate e).time = s.time := rfl
@[simp] theorem State.vacate_intake (e : Estimate) : (s.vacate e).intake = s.intake := rfl
@[simp] theorem State.vacate_translation (e : Estimate) :
    (s.vacate e).translation = s.translation := rfl
@[simp] theorem State.vacate_bins (e : Estimate) : (s.vacate e).bins = s.bins := rfl
@[simp] theorem State.vacate_profiles (e : Estimate) : (s.vacate e).profiles = s.profiles := rfl
@[simp] theorem State.vacate_slots (e : Estimate) :
    (s.vacate e).slots = s.slots.filter fun x => x.frame.bin != e.frame.bin := rfl
@[simp] theorem State.vacate_gates (e : Estimate) :
    (s.vacate e).gates = s.gates.setCount e.district (s.gates.count e.district - 1) := rfl
@[simp] theorem State.vacate_due (e : Estimate) : (s.vacate e).due = s.due := rfl
@[simp] theorem State.vacate_watch (e : Estimate) : (s.vacate e).watch = s.watch := rfl
@[simp] theorem State.vacate_composer (e : Estimate) : (s.vacate e).composer = s.composer := rfl
@[simp] theorem State.vacate_management (e : Estimate) :
    (s.vacate e).management = s.management := rfl
@[simp] theorem State.vacate_store (e : Estimate) : (s.vacate e).store = s.store := rfl
@[simp] theorem State.vacate_inForce (e : Estimate) : (s.vacate e).inForce = s.inForce := rfl
@[simp] theorem State.vacate_drawn (e : Estimate) : (s.vacate e).drawn = s.drawn := rfl

@[simp] theorem State.respond_pending (r : Request) (x : Result) (l : List Contents) :
    (s.respond r x l).pending = s.pending := rfl
@[simp] theorem State.respond_phase (r : Request) (x : Result) (l : List Contents) :
    (s.respond r x l).phase = s.phase := rfl
@[simp] theorem State.respond_resetLine (r : Request) (x : Result) (l : List Contents) :
    (s.respond r x l).resetLine = s.resetLine := rfl
@[simp] theorem State.respond_time (r : Request) (x : Result) (l : List Contents) :
    (s.respond r x l).time = s.time := rfl
@[simp] theorem State.respond_intake (r : Request) (x : Result) (l : List Contents) :
    (s.respond r x l).intake = s.intake := rfl
@[simp] theorem State.respond_translation (r : Request) (x : Result) (l : List Contents) :
    (s.respond r x l).translation = s.translation := rfl
@[simp] theorem State.respond_bins (r : Request) (x : Result) (l : List Contents) :
    (s.respond r x l).bins = s.bins := rfl
@[simp] theorem State.respond_profiles (r : Request) (x : Result) (l : List Contents) :
    (s.respond r x l).profiles = s.profiles := rfl
@[simp] theorem State.respond_slots (r : Request) (x : Result) (l : List Contents) :
    (s.respond r x l).slots = s.slots := rfl
@[simp] theorem State.respond_gates (r : Request) (x : Result) (l : List Contents) :
    (s.respond r x l).gates = s.gates := rfl
@[simp] theorem State.respond_due (r : Request) (x : Result) (l : List Contents) :
    (s.respond r x l).due = s.due := rfl
@[simp] theorem State.respond_watch (r : Request) (x : Result) (l : List Contents) :
    (s.respond r x l).watch = s.watch := rfl
@[simp] theorem State.respond_management (r : Request) (x : Result) (l : List Contents) :
    (s.respond r x l).management = s.management := rfl
@[simp] theorem State.respond_store (r : Request) (x : Result) (l : List Contents) :
    (s.respond r x l).store = s.store := rfl
@[simp] theorem State.respond_inForce (r : Request) (x : Result) (l : List Contents) :
    (s.respond r x l).inForce = s.inForce := rfl
@[simp] theorem State.respond_drawn (r : Request) (x : Result) (l : List Contents) :
    (s.respond r x l).drawn = s.drawn := rfl

@[simp] theorem State.answer_pending (r : Request) (x : Result) (l : List Contents) :
    (s.answer r x l).pending = s.pending := rfl
@[simp] theorem State.answer_phase (r : Request) (x : Result) (l : List Contents) :
    (s.answer r x l).phase = s.phase := rfl
@[simp] theorem State.answer_resetLine (r : Request) (x : Result) (l : List Contents) :
    (s.answer r x l).resetLine = s.resetLine := rfl
@[simp] theorem State.answer_time (r : Request) (x : Result) (l : List Contents) :
    (s.answer r x l).time = s.time := rfl
@[simp] theorem State.answer_intake (r : Request) (x : Result) (l : List Contents) :
    (s.answer r x l).intake = s.intake := rfl
@[simp] theorem State.answer_translation (r : Request) (x : Result) (l : List Contents) :
    (s.answer r x l).translation = s.translation := rfl
@[simp] theorem State.answer_bins (r : Request) (x : Result) (l : List Contents) :
    (s.answer r x l).bins = s.bins := rfl
@[simp] theorem State.answer_profiles (r : Request) (x : Result) (l : List Contents) :
    (s.answer r x l).profiles = s.profiles := rfl
@[simp] theorem State.answer_slots (r : Request) (x : Result) (l : List Contents) :
    (s.answer r x l).slots = s.slots := rfl
@[simp] theorem State.answer_gates (r : Request) (x : Result) (l : List Contents) :
    (s.answer r x l).gates = s.gates := rfl
@[simp] theorem State.answer_due (r : Request) (x : Result) (l : List Contents) :
    (s.answer r x l).due = s.due := rfl
@[simp] theorem State.answer_watch (r : Request) (x : Result) (l : List Contents) :
    (s.answer r x l).watch = s.watch := rfl
@[simp] theorem State.answer_management (r : Request) (x : Result) (l : List Contents) :
    (s.answer r x l).management = { s.management with queue := s.management.queue.tail } := rfl
@[simp] theorem State.answer_store (r : Request) (x : Result) (l : List Contents) :
    (s.answer r x l).store = s.store := rfl
@[simp] theorem State.answer_inForce (r : Request) (x : Result) (l : List Contents) :
    (s.answer r x l).inForce = s.inForce := rfl
@[simp] theorem State.answer_drawn (r : Request) (x : Result) (l : List Contents) :
    (s.answer r x l).drawn = s.drawn := rfl

@[simp] theorem State.setGates_pending (ds : List Nat) : (s.setGates ds).pending = s.pending := rfl
@[simp] theorem State.setGates_phase (ds : List Nat) : (s.setGates ds).phase = s.phase := rfl
@[simp] theorem State.setGates_resetLine (ds : List Nat) :
    (s.setGates ds).resetLine = s.resetLine := rfl
@[simp] theorem State.setGates_time (ds : List Nat) : (s.setGates ds).time = s.time := rfl
@[simp] theorem State.setGates_intake (ds : List Nat) : (s.setGates ds).intake = s.intake := rfl
@[simp] theorem State.setGates_translation (ds : List Nat) :
    (s.setGates ds).translation = s.translation := rfl
@[simp] theorem State.setGates_bins (ds : List Nat) : (s.setGates ds).bins = s.bins := rfl
@[simp] theorem State.setGates_profiles (ds : List Nat) :
    (s.setGates ds).profiles = s.profiles := rfl
@[simp] theorem State.setGates_slots (ds : List Nat) : (s.setGates ds).slots = s.slots := rfl
@[simp] theorem State.setGates_due (ds : List Nat) : (s.setGates ds).due = s.due := rfl
@[simp] theorem State.setGates_watch (ds : List Nat) : (s.setGates ds).watch = s.watch := rfl
@[simp] theorem State.setGates_composer (ds : List Nat) :
    (s.setGates ds).composer = s.composer := rfl
@[simp] theorem State.setGates_management (ds : List Nat) :
    (s.setGates ds).management = s.management := rfl
@[simp] theorem State.setGates_store (ds : List Nat) : (s.setGates ds).store = s.store := rfl
@[simp] theorem State.setGates_inForce (ds : List Nat) : (s.setGates ds).inForce = s.inForce := rfl
@[simp] theorem State.setGates_drawn (ds : List Nat) : (s.setGates ds).drawn = s.drawn := rfl

@[simp] theorem State.reopen_pending (c : PendingChange) : (s.reopen c).pending = s.pending := rfl
@[simp] theorem State.reopen_phase (c : PendingChange) : (s.reopen c).phase = s.phase := rfl
@[simp] theorem State.reopen_resetLine (c : PendingChange) :
    (s.reopen c).resetLine = s.resetLine := rfl
@[simp] theorem State.reopen_time (c : PendingChange) : (s.reopen c).time = s.time := rfl
@[simp] theorem State.reopen_intake (c : PendingChange) : (s.reopen c).intake = s.intake := rfl
@[simp] theorem State.reopen_translation (c : PendingChange) :
    (s.reopen c).translation = s.translation := rfl
@[simp] theorem State.reopen_bins (c : PendingChange) : (s.reopen c).bins = s.bins := rfl
@[simp] theorem State.reopen_profiles (c : PendingChange) :
    (s.reopen c).profiles = s.profiles := rfl
@[simp] theorem State.reopen_slots (c : PendingChange) : (s.reopen c).slots = s.slots := rfl
@[simp] theorem State.reopen_gates (c : PendingChange) :
    (s.reopen c).gates = { s.gates.setStates c.districts .opened with change := none } := rfl
@[simp] theorem State.reopen_due (c : PendingChange) : (s.reopen c).due = s.due := rfl
@[simp] theorem State.reopen_watch (c : PendingChange) : (s.reopen c).watch = s.watch := rfl
@[simp] theorem State.reopen_composer (c : PendingChange) :
    (s.reopen c).composer = s.composer := rfl
@[simp] theorem State.reopen_management (c : PendingChange) :
    (s.reopen c).management = s.management := rfl
@[simp] theorem State.reopen_store (c : PendingChange) : (s.reopen c).store = s.store := rfl
@[simp] theorem State.reopen_inForce (c : PendingChange) : (s.reopen c).inForce = s.inForce := rfl
@[simp] theorem State.reopen_drawn (c : PendingChange) : (s.reopen c).drawn = s.drawn := rfl

@[simp] theorem State.setPrefix_pending (p : Nat) (seg : Option Segment) :
    (s.setPrefix p seg).pending = s.pending := rfl
@[simp] theorem State.setPrefix_phase (p : Nat) (seg : Option Segment) :
    (s.setPrefix p seg).phase = s.phase := rfl
@[simp] theorem State.setPrefix_resetLine (p : Nat) (seg : Option Segment) :
    (s.setPrefix p seg).resetLine = s.resetLine := rfl
@[simp] theorem State.setPrefix_time (p : Nat) (seg : Option Segment) :
    (s.setPrefix p seg).time = s.time := rfl
@[simp] theorem State.setPrefix_intake (p : Nat) (seg : Option Segment) :
    (s.setPrefix p seg).intake = s.intake := rfl
@[simp] theorem State.setPrefix_translation (p : Nat) (seg : Option Segment) :
    (s.setPrefix p seg).translation = { s.translation with prefixes := s.translation.prefixes.set p seg } := rfl
@[simp] theorem State.setPrefix_bins (p : Nat) (seg : Option Segment) :
    (s.setPrefix p seg).bins = s.bins := rfl
@[simp] theorem State.setPrefix_profiles (p : Nat) (seg : Option Segment) :
    (s.setPrefix p seg).profiles = s.profiles := rfl
@[simp] theorem State.setPrefix_slots (p : Nat) (seg : Option Segment) :
    (s.setPrefix p seg).slots = s.slots := rfl
@[simp] theorem State.setPrefix_gates (p : Nat) (seg : Option Segment) :
    (s.setPrefix p seg).gates = s.gates := rfl
@[simp] theorem State.setPrefix_due (p : Nat) (seg : Option Segment) :
    (s.setPrefix p seg).due = s.due := rfl
@[simp] theorem State.setPrefix_watch (p : Nat) (seg : Option Segment) :
    (s.setPrefix p seg).watch = s.watch := rfl
@[simp] theorem State.setPrefix_composer (p : Nat) (seg : Option Segment) :
    (s.setPrefix p seg).composer = s.composer := rfl
@[simp] theorem State.setPrefix_management (p : Nat) (seg : Option Segment) :
    (s.setPrefix p seg).management = s.management := rfl
@[simp] theorem State.setPrefix_store (p : Nat) (seg : Option Segment) :
    (s.setPrefix p seg).store = s.store := rfl
@[simp] theorem State.setPrefix_inForce (p : Nat) (seg : Option Segment) :
    (s.setPrefix p seg).inForce = s.inForce := rfl
@[simp] theorem State.setPrefix_drawn (p : Nat) (seg : Option Segment) :
    (s.setPrefix p seg).drawn = s.drawn := rfl

@[simp] theorem State.setDevice_pending (e : Nat) (m : Option Mapping) :
    (s.setDevice e m).pending = s.pending := rfl
@[simp] theorem State.setDevice_phase (e : Nat) (m : Option Mapping) :
    (s.setDevice e m).phase = s.phase := rfl
@[simp] theorem State.setDevice_resetLine (e : Nat) (m : Option Mapping) :
    (s.setDevice e m).resetLine = s.resetLine := rfl
@[simp] theorem State.setDevice_time (e : Nat) (m : Option Mapping) :
    (s.setDevice e m).time = s.time := rfl
@[simp] theorem State.setDevice_intake (e : Nat) (m : Option Mapping) :
    (s.setDevice e m).intake = s.intake := rfl
@[simp] theorem State.setDevice_translation (e : Nat) (m : Option Mapping) :
    (s.setDevice e m).translation = { s.translation with devices := s.translation.devices.set e m } := rfl
@[simp] theorem State.setDevice_bins (e : Nat) (m : Option Mapping) :
    (s.setDevice e m).bins = s.bins := rfl
@[simp] theorem State.setDevice_profiles (e : Nat) (m : Option Mapping) :
    (s.setDevice e m).profiles = s.profiles := rfl
@[simp] theorem State.setDevice_slots (e : Nat) (m : Option Mapping) :
    (s.setDevice e m).slots = s.slots := rfl
@[simp] theorem State.setDevice_gates (e : Nat) (m : Option Mapping) :
    (s.setDevice e m).gates = s.gates := rfl
@[simp] theorem State.setDevice_due (e : Nat) (m : Option Mapping) :
    (s.setDevice e m).due = s.due := rfl
@[simp] theorem State.setDevice_watch (e : Nat) (m : Option Mapping) :
    (s.setDevice e m).watch = s.watch := rfl
@[simp] theorem State.setDevice_composer (e : Nat) (m : Option Mapping) :
    (s.setDevice e m).composer = s.composer := rfl
@[simp] theorem State.setDevice_management (e : Nat) (m : Option Mapping) :
    (s.setDevice e m).management = s.management := rfl
@[simp] theorem State.setDevice_store (e : Nat) (m : Option Mapping) :
    (s.setDevice e m).store = s.store := rfl
@[simp] theorem State.setDevice_inForce (e : Nat) (m : Option Mapping) :
    (s.setDevice e m).inForce = s.inForce := rfl
@[simp] theorem State.setDevice_drawn (e : Nat) (m : Option Mapping) :
    (s.setDevice e m).drawn = s.drawn := rfl

@[simp] theorem State.setProfile_pending (n : Nat) (p : Option Profile) :
    (s.setProfile n p).pending = s.pending := rfl
@[simp] theorem State.setProfile_phase (n : Nat) (p : Option Profile) :
    (s.setProfile n p).phase = s.phase := rfl
@[simp] theorem State.setProfile_resetLine (n : Nat) (p : Option Profile) :
    (s.setProfile n p).resetLine = s.resetLine := rfl
@[simp] theorem State.setProfile_time (n : Nat) (p : Option Profile) :
    (s.setProfile n p).time = s.time := rfl
@[simp] theorem State.setProfile_intake (n : Nat) (p : Option Profile) :
    (s.setProfile n p).intake = s.intake := rfl
@[simp] theorem State.setProfile_translation (n : Nat) (p : Option Profile) :
    (s.setProfile n p).translation = s.translation := rfl
@[simp] theorem State.setProfile_bins (n : Nat) (p : Option Profile) :
    (s.setProfile n p).bins = s.bins := rfl
@[simp] theorem State.setProfile_profiles (n : Nat) (p : Option Profile) :
    (s.setProfile n p).profiles = s.profiles.set n p := rfl
@[simp] theorem State.setProfile_slots (n : Nat) (p : Option Profile) :
    (s.setProfile n p).slots = s.slots := rfl
@[simp] theorem State.setProfile_gates (n : Nat) (p : Option Profile) :
    (s.setProfile n p).gates = s.gates := rfl
@[simp] theorem State.setProfile_due (n : Nat) (p : Option Profile) :
    (s.setProfile n p).due = s.due := rfl
@[simp] theorem State.setProfile_watch (n : Nat) (p : Option Profile) :
    (s.setProfile n p).watch = s.watch := rfl
@[simp] theorem State.setProfile_composer (n : Nat) (p : Option Profile) :
    (s.setProfile n p).composer = s.composer := rfl
@[simp] theorem State.setProfile_management (n : Nat) (p : Option Profile) :
    (s.setProfile n p).management = s.management := rfl
@[simp] theorem State.setProfile_store (n : Nat) (p : Option Profile) :
    (s.setProfile n p).store = s.store := rfl
@[simp] theorem State.setProfile_inForce (n : Nat) (p : Option Profile) :
    (s.setProfile n p).inForce = s.inForce := rfl
@[simp] theorem State.setProfile_drawn (n : Nat) (p : Option Profile) :
    (s.setProfile n p).drawn = s.drawn := rfl

@[simp] theorem State.setAuthority_pending (c : Nat) (a : Authority) :
    (s.setAuthority c a).pending = s.pending := rfl
@[simp] theorem State.setAuthority_phase (c : Nat) (a : Authority) :
    (s.setAuthority c a).phase = s.phase := rfl
@[simp] theorem State.setAuthority_resetLine (c : Nat) (a : Authority) :
    (s.setAuthority c a).resetLine = s.resetLine := rfl
@[simp] theorem State.setAuthority_time (c : Nat) (a : Authority) :
    (s.setAuthority c a).time = s.time := rfl
@[simp] theorem State.setAuthority_intake (c : Nat) (a : Authority) :
    (s.setAuthority c a).intake = s.intake := rfl
@[simp] theorem State.setAuthority_translation (c : Nat) (a : Authority) :
    (s.setAuthority c a).translation = s.translation := rfl
@[simp] theorem State.setAuthority_bins (c : Nat) (a : Authority) :
    (s.setAuthority c a).bins = s.bins := rfl
@[simp] theorem State.setAuthority_profiles (c : Nat) (a : Authority) :
    (s.setAuthority c a).profiles = s.profiles := rfl
@[simp] theorem State.setAuthority_slots (c : Nat) (a : Authority) :
    (s.setAuthority c a).slots = s.slots := rfl
@[simp] theorem State.setAuthority_gates (c : Nat) (a : Authority) :
    (s.setAuthority c a).gates = s.gates := rfl
@[simp] theorem State.setAuthority_due (c : Nat) (a : Authority) :
    (s.setAuthority c a).due = s.due := rfl
@[simp] theorem State.setAuthority_watch (c : Nat) (a : Authority) :
    (s.setAuthority c a).watch = s.watch := rfl
@[simp] theorem State.setAuthority_composer (c : Nat) (a : Authority) :
    (s.setAuthority c a).composer = s.composer := rfl
@[simp] theorem State.setAuthority_management (c : Nat) (a : Authority) :
    (s.setAuthority c a).management = { s.management with authority := s.management.authority.write .nothing c a } := rfl
@[simp] theorem State.setAuthority_store (c : Nat) (a : Authority) :
    (s.setAuthority c a).store = s.store := rfl
@[simp] theorem State.setAuthority_inForce (c : Nat) (a : Authority) :
    (s.setAuthority c a).inForce = s.inForce := rfl
@[simp] theorem State.setAuthority_drawn (c : Nat) (a : Authority) :
    (s.setAuthority c a).drawn = s.drawn := rfl

@[simp] theorem State.send_pending (f : OutFrame) : (s.send f).pending = s.pending := rfl
@[simp] theorem State.send_phase (f : OutFrame) : (s.send f).phase = s.phase := rfl
@[simp] theorem State.send_resetLine (f : OutFrame) : (s.send f).resetLine = s.resetLine := rfl
@[simp] theorem State.send_time (f : OutFrame) : (s.send f).time = s.time := rfl
@[simp] theorem State.send_intake (f : OutFrame) : (s.send f).intake = s.intake := rfl
@[simp] theorem State.send_translation (f : OutFrame) :
    (s.send f).translation = s.translation := rfl
@[simp] theorem State.send_bins (f : OutFrame) : (s.send f).bins = s.bins := rfl
@[simp] theorem State.send_profiles (f : OutFrame) : (s.send f).profiles = s.profiles := rfl
@[simp] theorem State.send_slots (f : OutFrame) : (s.send f).slots = s.slots := rfl
@[simp] theorem State.send_gates (f : OutFrame) : (s.send f).gates = s.gates := rfl
@[simp] theorem State.send_due (f : OutFrame) : (s.send f).due = s.due := rfl
@[simp] theorem State.send_watch (f : OutFrame) : (s.send f).watch = s.watch := rfl
@[simp] theorem State.send_composer (f : OutFrame) :
    (s.send f).composer = { s.composer with sending := some f } := rfl
@[simp] theorem State.send_management (f : OutFrame) : (s.send f).management = s.management := rfl
@[simp] theorem State.send_store (f : OutFrame) : (s.send f).store = s.store := rfl
@[simp] theorem State.send_inForce (f : OutFrame) : (s.send f).inForce = s.inForce := rfl
@[simp] theorem State.send_drawn (f : OutFrame) : (s.send f).drawn = s.drawn := rfl

@[simp] theorem State.setPaused_pending (f : Bool) : (s.setPaused f).pending = s.pending := rfl
@[simp] theorem State.setPaused_phase (f : Bool) : (s.setPaused f).phase = s.phase := rfl
@[simp] theorem State.setPaused_resetLine (f : Bool) :
    (s.setPaused f).resetLine = s.resetLine := rfl
@[simp] theorem State.setPaused_time (f : Bool) : (s.setPaused f).time = s.time := rfl
@[simp] theorem State.setPaused_intake (f : Bool) : (s.setPaused f).intake = s.intake := rfl
@[simp] theorem State.setPaused_translation (f : Bool) :
    (s.setPaused f).translation = s.translation := rfl
@[simp] theorem State.setPaused_bins (f : Bool) : (s.setPaused f).bins = s.bins := rfl
@[simp] theorem State.setPaused_profiles (f : Bool) : (s.setPaused f).profiles = s.profiles := rfl
@[simp] theorem State.setPaused_slots (f : Bool) : (s.setPaused f).slots = s.slots := rfl
@[simp] theorem State.setPaused_gates (f : Bool) : (s.setPaused f).gates = s.gates := rfl
@[simp] theorem State.setPaused_due (f : Bool) : (s.setPaused f).due = s.due := rfl
@[simp] theorem State.setPaused_watch (f : Bool) : (s.setPaused f).watch = s.watch := rfl
@[simp] theorem State.setPaused_composer (f : Bool) :
    (s.setPaused f).composer = { s.composer with paused := f } := rfl
@[simp] theorem State.setPaused_management (f : Bool) :
    (s.setPaused f).management = s.management := rfl
@[simp] theorem State.setPaused_store (f : Bool) : (s.setPaused f).store = s.store := rfl
@[simp] theorem State.setPaused_inForce (f : Bool) : (s.setPaused f).inForce = s.inForce := rfl
@[simp] theorem State.setPaused_drawn (f : Bool) : (s.setPaused f).drawn = s.drawn := rfl

end Sys2Proof.Machine
end

