-- ==== Sys2Proof/Laws/Table.lean ====
section
/-! SUPPORT. What a table holds after a write, and that every write keeps a table's canonical form. -/

namespace Sys2Proof.Machine

variable {α : Type}

/-! ### Lists of entries -/

theorem findEntry_putEntry_self (l : List (Nat × α)) (k : Nat) (v : α) :
    findEntry (putEntry l k v) k = some v := by
  induction l with
  | nil => simp [putEntry, findEntry]
  | cons x rest ih =>
    obtain ⟨j, w⟩ := x
    unfold putEntry
    split
    · simp [findEntry]
    · split
      · simp [findEntry]
      · next h => simp [findEntry, Ne.symm h, ih]

theorem findEntry_putEntry_other (l : List (Nat × α)) {k i : Nat} (v : α) (h : i ≠ k) :
    findEntry (putEntry l k v) i = findEntry l i := by
  induction l with
  | nil => simp [putEntry, findEntry, Ne.symm h]
  | cons x rest ih =>
    obtain ⟨j, w⟩ := x
    unfold putEntry
    split
    · simp [findEntry, Ne.symm h]
    · split
      · next hj => subst hj; simp [findEntry, Ne.symm h]
      · simp only [findEntry, ih]

theorem findEntry_dropEntry_other (l : List (Nat × α)) {k i : Nat} (h : i ≠ k) :
    findEntry (dropEntry l k) i = findEntry l i := by
  induction l with
  | nil => rfl
  | cons x rest ih =>
    obtain ⟨j, w⟩ := x
    unfold dropEntry
    split
    · next hj => subst hj; simp [findEntry, Ne.symm h]
    · simp only [findEntry, ih]

theorem rising_cons {j : Nat} {v : α} {rest : List (Nat × α)} :
    rising ((j, v) :: rest) = true ↔ (∀ e ∈ rest, j < e.1) ∧ rising rest = true := by
  simp [rising]

theorem findEntry_eq_none {l : List (Nat × α)} {k : Nat} (h : ∀ e ∈ l, e.1 ≠ k) :
    findEntry l k = none := by
  induction l with
  | nil => rfl
  | cons x rest ih =>
    obtain ⟨j, w⟩ := x
    simp only [List.mem_cons, forall_eq_or_imp] at h
    simp [findEntry, h.1, ih h.2]

theorem findEntry_dropEntry_self {l : List (Nat × α)} (k : Nat) (h : rising l = true) :
    findEntry (dropEntry l k) k = none := by
  induction l with
  | nil => rfl
  | cons x rest ih =>
    obtain ⟨j, w⟩ := x
    rw [rising_cons] at h
    unfold dropEntry
    split
    · next hj => subst hj; exact findEntry_eq_none fun e he => Nat.ne_of_gt (h.1 e he)
    · next hj => simp [findEntry, hj, ih h.2]

theorem mem_of_findEntry {l : List (Nat × α)} {k : Nat} {v : α} (h : findEntry l k = some v) :
    (k, v) ∈ l := by
  induction l with
  | nil => cases h
  | cons x rest ih =>
    obtain ⟨j, w⟩ := x
    unfold findEntry at h
    split at h
    · next hj => cases h; simp [hj]
    · exact List.mem_cons_of_mem _ (ih h)

theorem findEntry_of_mem {l : List (Nat × α)} {k : Nat} {v : α} (h : rising l = true)
    (hm : (k, v) ∈ l) : findEntry l k = some v := by
  induction l with
  | nil => cases hm
  | cons x rest ih =>
    obtain ⟨j, w⟩ := x
    rw [rising_cons] at h
    rcases List.mem_cons.1 hm with he | hr
    · cases he; simp [findEntry]
    · have : j ≠ k := Nat.ne_of_lt (h.1 _ hr)
      simp [findEntry, this, ih h.2 hr]

theorem mem_putEntry {l : List (Nat × α)} {k : Nat} {v : α} {e : Nat × α}
    (h : e ∈ putEntry l k v) : e = (k, v) ∨ e ∈ l := by
  induction l with
  | nil => simpa [putEntry] using h
  | cons x rest ih =>
    obtain ⟨j, w⟩ := x
    unfold putEntry at h
    split at h
    · simpa using h
    · split at h
      · rcases List.mem_cons.1 h with h | h
        · exact .inl h
        · exact .inr (List.mem_cons_of_mem _ h)
      · rcases List.mem_cons.1 h with h | h
        · exact .inr (h ▸ List.mem_cons_self ..)
        · exact (ih h).imp_right (List.mem_cons_of_mem _)

theorem mem_dropEntry {l : List (Nat × α)} {k : Nat} {e : Nat × α} (h : e ∈ dropEntry l k) :
    e ∈ l := by
  induction l with
  | nil => cases h
  | cons x rest ih =>
    obtain ⟨j, w⟩ := x
    unfold dropEntry at h
    split at h
    · exact List.mem_cons_of_mem _ h
    · rcases List.mem_cons.1 h with h | h
      · exact h ▸ List.mem_cons_self ..
      · exact List.mem_cons_of_mem _ (ih h)

theorem rising_putEntry {l : List (Nat × α)} (k : Nat) (v : α) (h : rising l = true) :
    rising (putEntry l k v) = true := by
  induction l with
  | nil => simp [putEntry, rising]
  | cons x rest ih =>
    obtain ⟨j, w⟩ := x
    have h0 := h
    rw [rising_cons] at h
    unfold putEntry
    split
    · next hk =>
      rw [rising_cons]
      refine ⟨fun e he => ?_, h0⟩
      rcases List.mem_cons.1 he with rfl | he
      · exact hk
      · exact Nat.lt_trans hk (h.1 e he)
    · next hk =>
      split
      · next hj => subst hj; exact rising_cons.2 h
      · next hj =>
        refine rising_cons.2 ⟨fun e he => ?_, ih h.2⟩
        rcases mem_putEntry he with rfl | he
        · exact Nat.lt_of_le_of_ne (Nat.le_of_not_lt hk) (Ne.symm hj)
        · exact h.1 e he

theorem rising_dropEntry {l : List (Nat × α)} (k : Nat) (h : rising l = true) :
    rising (dropEntry l k) = true := by
  induction l with
  | nil => rfl
  | cons x rest ih =>
    obtain ⟨j, w⟩ := x
    rw [rising_cons] at h
    unfold dropEntry
    split
    · exact h.2
    · exact rising_cons.2 ⟨fun e he => h.1 e (mem_dropEntry he), ih h.2⟩

/-! ### Tables -/

@[simp] theorem Table.get_empty (k : Nat) : (Table.empty : Table α).get k = none := rfl

@[simp] theorem Table.wf_empty : (Table.empty : Table α).wf = true := rfl

@[simp] theorem Table.get_set_some (t : Table α) (k : Nat) (v : α) :
    (t.set k (some v)).get k = some v := findEntry_putEntry_self ..

theorem Table.get_set_none {t : Table α} (h : t.wf = true) (k : Nat) :
    (t.set k none).get k = none := findEntry_dropEntry_self k h

theorem Table.get_set_other (t : Table α) {k i : Nat} (v : Option α) (h : i ≠ k) :
    (t.set k v).get i = t.get i := by
  cases v with
  | none => exact findEntry_dropEntry_other _ h
  | some v => exact findEntry_putEntry_other _ v h

/-- What a table holds after an entry is set. -/
theorem Table.get_set {t : Table α} (h : t.wf = true) (k i : Nat) (v : Option α) :
    (t.set k v).get i = if i = k then v else t.get i := by
  split
  · next hi =>
    subst hi
    cases v with
    | none => exact get_set_none h i
    | some v => exact get_set_some t i v
  · next hi => exact get_set_other t v hi

/-- Setting an entry keeps the canonical form. -/
theorem Table.wf_set {t : Table α} (h : t.wf = true) (k : Nat) (v : Option α) :
    (t.set k v).wf = true := by
  cases v with
  | none => exact rising_dropEntry k h
  | some v => exact rising_putEntry k v h

theorem Table.wf_of_canonical [DecidableEq α] {d : Nat → α} {t : Table α}
    (h : t.canonical d = true) : t.wf = true := by
  simp only [Table.canonical, Bool.and_eq_true] at h
  exact h.1

theorem Table.read_write_other [DecidableEq α] (t : Table α) {k i : Nat} (d d' v : α) (h : i ≠ k) :
    (t.write d k v).read d' i = t.read d' i := by
  simp [Table.read, Table.write, get_set_other t _ h]

/-- What a table reads as after a write. -/
theorem Table.read_write [DecidableEq α] {t : Table α} (h : t.wf = true) (d : α) (k i : Nat)
    (v : α) : (t.write d k v).read d i = if i = k then v else t.read d i := by
  split
  · next hi =>
    subst hi
    unfold Table.read Table.write
    split
    · next hv => rw [get_set_none h, hv]; rfl
    · rw [get_set_some]; rfl
  · next hi => exact read_write_other t d d v hi

/-- A write keeps the canonical form. -/
theorem Table.canonical_write [DecidableEq α] {d : Nat → α} {t : Table α}
    (h : t.canonical d = true) (k : Nat) (v : α) : (t.write (d k) k v).canonical d = true := by
  simp only [Table.canonical, Bool.and_eq_true, List.all_eq_true, decide_eq_true_eq] at h ⊢
  unfold Table.write
  refine ⟨wf_set h.1 k _, fun e he => ?_⟩
  split at he
  · exact h.2 e (mem_dropEntry he)
  · next hv =>
    rcases mem_putEntry he with rfl | he
    · exact hv
    · exact h.2 e he

/-- A listed entry is found, and what is found is listed. -/
theorem Table.get_eq_some {t : Table α} (h : t.wf = true) (k : Nat) (v : α) :
    t.get k = some v ↔ (k, v) ∈ t.entries :=
  ⟨mem_of_findEntry, findEntry_of_mem h⟩

end Sys2Proof.Machine
end

