-- ==== Sys2Proof/Laws/Ops.lean ====
section
/-! SUPPORT. What each shared operation can do, said once: reads after writes of the records, the
watch unit, the hand-overs to the collection-due queue, gates, admission places, the head of the
management queue and the carrying out of a change. -/

namespace Sys2Proof.Machine

variable {s : State}

/-! ### Running -/

theorem State.isRunning_iff : s.isRunning = true ↔ s.phase = .running := by
  unfold State.isRunning
  cases s.phase <;> simp

theorem State.whenRunning_of_running {f : State → State} (h : s.phase = .running) :
    s.whenRunning f = f s := by
  simp [State.whenRunning, State.isRunning_iff.2 h]

theorem State.whenRunning_of_not {f : State → State} (h : s.phase ≠ .running) :
    s.whenRunning f = s := by
  simp [State.whenRunning, State.isRunning_iff, h]

/-! ### Bin records and calibration entries -/

theorem State.record_setRecord (h : s.bins.records.wf = true) (b i : Nat) (r : BinRecord) :
    (s.setRecord b r).record i = if i = b then r else s.record i :=
  Table.read_write h BinRecord.vacant b i r

theorem State.record_setRecord_other {b i : Nat} (r : BinRecord) (h : i ≠ b) :
    (s.setRecord b r).record i = s.record i :=
  Table.read_write_other s.bins.records _ _ r h

theorem State.assigned_setAssigned (h : s.bins.records.wf = true) (b i : Nat)
    (a : Option Assigned) :
    (s.setAssigned b a).assigned i = if i = b then a else s.assigned i := by
  unfold State.assigned State.setAssigned
  rw [State.record_setRecord h]
  split <;> rfl

theorem State.assigned_setUnqueued (h : s.bins.records.wf = true) (b i : Nat) (f : Bool) :
    (s.setUnqueued b f).assigned i = s.assigned i := by
  unfold State.assigned State.setUnqueued
  rw [State.record_setRecord h]
  split
  · next hi => subst hi; rfl
  · rfl

theorem State.assigned_setMapped (h : s.bins.records.wf = true) (b i : Nat) (e : Option Nat) :
    (s.setMapped b e).assigned i = s.assigned i := by
  unfold State.assigned State.setMapped
  rw [State.record_setRecord h]
  split
  · next hi => subst hi; rfl
  · rfl

theorem State.learned_setLearned (h : s.bins.calibration.wf = true) (b i : Nat) (c : Option Int) :
    (s.setLearned b c).learned i = if i = b then c else s.learned i :=
  Table.get_set h b i c

@[simp] theorem State.learned_setRecord (b i : Nat) (r : BinRecord) :
    (s.setRecord b r).learned i = s.learned i := rfl

@[simp] theorem State.record_setLearned (b i : Nat) (c : Option Int) :
    (s.setLearned b c).record i = s.record i := rfl

/-! ### The watch unit -/

/-- Taking an event changes the counters and the notice queue alone. -/
theorem Watch.take_masks (t : Timebase) (c : Bool) (w : Watch) (e : Event) :
    (w.take t c e).masks = w.masks := by
  have up : ∀ r k, (w.countUp r k).masks = w.masks := by
    intro r k; unfold Watch.countUp; split <;> rfl
  unfold Watch.take
  split
  · rfl
  · exact up _ _
  · split
    · rfl
    · exact up _ _

/-- Taking an event never lets the notice queue grow past its size. -/
theorem Watch.take_notices_length (t : Timebase) (c : Bool) (w : Watch) (e : Event)
    (h : w.notices.length ≤ noticeSize) : (w.take t c e).notices.length ≤ noticeSize := by
  unfold Watch.take
  split
  · exact h
  · unfold Watch.countUp Watch.setCounter
    split <;> exact h
  · split
    · next hl => simp; omega
    · unfold Watch.countUp Watch.setCounter
      split <;> exact h

/-- Taking a group keeps whatever taking each of its events keeps. -/
theorem Watch.takeGroup_keeps {P : Watch → Prop} (t : Timebase) (es : List Event)
    (step : ∀ c w e, P w → P (Watch.take t c w e)) (w : Watch) (h : P w) :
    P (w.takeGroup t es) := by
  unfold Watch.takeGroup
  generalize decide (2 ≤ (es.filter w.notifies).length) = c
  induction es generalizing w with
  | nil => exact h
  | cons e rest ih => exact ih (w.take t c e) (step c w e h)

theorem Watch.takeGroup_masks (t : Timebase) (w : Watch) (es : List Event) :
    (w.takeGroup t es).masks = w.masks :=
  Watch.takeGroup_keeps (P := fun v => v.masks = w.masks) t es
    (fun c v e h => (Watch.take_masks t c v e).trans h) w rfl

theorem Watch.takeGroup_notices_length (t : Timebase) (w : Watch) (es : List Event)
    (h : w.notices.length ≤ noticeSize) : (w.takeGroup t es).notices.length ≤ noticeSize :=
  Watch.takeGroup_keeps (P := fun v => v.notices.length ≤ noticeSize) t es
    (fun c v e h => Watch.take_notices_length t c v e h) w h

/-! ### The collection-due queue -/

/-- Everything a prediction can do (R115, R116): it is placed in a queue with room, or in the place
of an evicted last entry, or refused; in each case after the bin's old entry has gone. -/
theorem State.handPrediction_cases (e : DueEntry) (s : State) :
    ((dropDue e.bin s.due).length < dueSize ∧
      s.handPrediction e = s.placeDue e (dropDue e.bin s.due)) ∨
    (∃ last, (dropDue e.bin s.due).getLast? = some last ∧ dueSize ≤ (dropDue e.bin s.due).length ∧
      e.before last = true ∧
      s.handPrediction e = (s.setUnqueued last.bin true).placeDue e (dropDue e.bin s.due).dropLast) ∨
    (∃ last, (dropDue e.bin s.due).getLast? = some last ∧ dueSize ≤ (dropDue e.bin s.due).length ∧
      e.before last = false ∧
      s.handPrediction e =
        State.setUnqueued e.bin true { s with due := dropDue e.bin s.due }) := by
  unfold State.handPrediction
  by_cases h : (dropDue e.bin s.due).length < dueSize
  · exact .inl ⟨h, by simp [h]⟩
  · cases hl : (dropDue e.bin s.due).getLast? with
    | none => simp [List.getLast?_eq_none_iff.1 hl, dueSize] at h
    | some last =>
      cases hb : e.before last with
      | true => exact .inr (.inl ⟨last, rfl, Nat.le_of_not_lt h, hb, by simp [h, hl, hb]⟩)
      | false => exact .inr (.inr ⟨last, rfl, Nat.le_of_not_lt h, hb, by simp [h, hl, hb]⟩)

/-- A prediction changes the due queue and unqueued flags alone. -/
theorem State.handPrediction_frame (e : DueEntry) (s : State) :
    s.handPrediction e = { s with due := (s.handPrediction e).due
                                  bins := (s.handPrediction e).bins } := by
  rcases State.handPrediction_cases e s with ⟨-, h⟩ | ⟨_, -, -, -, h⟩ | ⟨_, -, -, -, h⟩ <;>
    rw [h] <;> rfl

theorem mem_insertDue {e x : DueEntry} {q : List DueEntry} :
    x ∈ insertDue e q ↔ x = e ∨ x ∈ q := by
  induction q with
  | nil => simp [insertDue]
  | cons y rest ih =>
    unfold insertDue
    split
    · simp
    · simp only [List.mem_cons, ih]; tauto

theorem length_insertDue (e : DueEntry) (q : List DueEntry) :
    (insertDue e q).length = q.length + 1 := by
  induction q with
  | nil => rfl
  | cons y rest ih => unfold insertDue; split <;> simp [ih]

/-- The order of keys is total on entries of different bins. -/
theorem DueEntry.before_total {a b : DueEntry} (h : a.bin ≠ b.bin) (hn : a.before b = false) :
    b.before a = true := by
  simp only [DueEntry.before, Bool.or_eq_false_iff, Bool.and_eq_false_iff, decide_eq_false_iff_not,
    Bool.or_eq_true, Bool.and_eq_true, decide_eq_true_eq] at hn ⊢
  omega

theorem DueEntry.before_trans {a b c : DueEntry} (h : a.before b = true) (h' : b.before c = true) :
    a.before c = true := by
  simp only [DueEntry.before, Bool.or_eq_true, Bool.and_eq_true, decide_eq_true_eq] at h h' ⊢
  omega

/-! ### The head of the management queue -/

/-- When a request is the head (R151, R161). -/
theorem State.head_eq_some {r : Request} :
    s.head = some r ↔ s.phase = .running ∧ s.gates.change = none ∧
      s.composer.responses.length < headRoom ∧ s.management.queue.head? = some r := by
  unfold State.head
  cases hc : s.gates.change <;>
    simp [State.isRunning_iff, and_assoc]

/-- Everything the service of the head can do: nothing, the answer of the first failing check, or
the carrying out of the request. -/
theorem State.serve_cases (mine : Request → Bool) (check : State → Request → Option Result)
    (carry : Request → State → State) (s : State) :
    s.serve mine check carry = s ∨ ∃ r, s.head = some r ∧ mine r = true ∧
      ((∃ x, check s r = some x ∧ s.serve mine check carry = s.refuse r x) ∨
        (check s r = none ∧ s.serve mine check carry = carry r s)) := by
  unfold State.serve
  split
  · exact .inl rfl
  · next r hr =>
    split
    · next hm =>
      refine .inr ⟨r, hr, hm, ?_⟩
      cases hc : check s r with
      | some x => exact .inl ⟨x, rfl, rfl⟩
      | none => exact .inr ⟨rfl, rfl⟩
    · exact .inl rfl

theorem State.serve_passed {mine : Request → Bool} {check : State → Request → Option Result}
    {carry : Request → State → State} {r : Request} (hr : s.head = some r) (hm : mine r = true)
    (hc : check s r = none) : s.serve mine check carry = carry r s := by
  simp [State.serve, hr, hm, hc]

theorem State.serve_failed {mine : Request → Bool} {check : State → Request → Option Result}
    {carry : Request → State → State} {r : Request} {x : Result} (hr : s.head = some r)
    (hm : mine r = true) (hc : check s r = some x) :
    s.serve mine check carry = s.refuse r x := by
  simp [State.serve, hr, hm, hc]

/-- A request passes its checks when each of them passes. -/
theorem firstFailure_eq_none (l : List (Bool × Result)) :
    firstFailure l = none ↔ ∀ c ∈ l, c.1 = true := by
  induction l with
  | nil => simp [firstFailure]
  | cons c rest ih =>
    obtain ⟨b, x⟩ := c
    cases b <;> simp [firstFailure, ih]

/-! ### Releases and admission places -/

/-- The fate of a translated frame at its gate (R101): admitted, deferred, or refused. -/
theorem State.gateTest_cases (f : Frame) (d : Nat) (s : State) :
    (s.gates.state d = .opened ∧ s.gateTest f d = s.joinAdmission f) ∨
    (s.gates.state d ≠ .opened ∧ s.gates.deferred.length < deferredSize ∧
      s.gateTest f d = State.endFrame .deferred d (some f.bin) f.payload .nullified
        { s with gates := { s.gates with
            deferred := s.gates.deferred ++ [{ frame := f, district := d }] } }) ∨
    (s.gates.state d ≠ .opened ∧ deferredSize ≤ s.gates.deferred.length ∧
      s.gateTest f d = s.endFrame .overrun d (some f.bin) f.payload .deferFull) := by
  unfold State.gateTest
  by_cases h : s.gates.state d = .opened
  · exact .inl ⟨h, by simp [h]⟩
  · by_cases hl : s.gates.deferred.length < deferredSize
    · exact .inr (.inl ⟨h, hl, by simp [h, hl]⟩)
    · exact .inr (.inr ⟨h, Nat.le_of_not_lt hl, by simp [h, hl]⟩)

/-- A grant of a place is the move of a deferred frame or the release of a held entry (R15). -/
theorem State.grantPlace_cases {t : State} (h : s.grantPlace = some t) :
    s.placeFree = true ∧ ((∃ d, s.openDeferred = some d ∧ t = s.moveDeferred d) ∨
      (s.openDeferred = none ∧ ∃ e, firstHeld s.intake.window = some e ∧ t = s.release e)) := by
  unfold State.grantPlace at h
  split at h
  · next hp =>
    refine ⟨hp, ?_⟩
    split at h
    · next d hd => exact .inl ⟨d, hd, (Option.some.inj h).symm⟩
    · next hd =>
      split at h
      · next e he => exact .inr ⟨hd, e, he, (Option.some.inj h).symm⟩
      · cases h
  · cases h

/-- Giving places keeps whatever one grant keeps. -/
theorem grantPlaces_keeps {P : State → Prop} (step : ∀ s t, s.grantPlace = some t → P s → P t)
    (n : Nat) (s : State) (h : P s) : P (grantPlaces n s) := by
  induction n generalizing s with
  | zero => exact h
  | succ n ih =>
    unfold grantPlaces
    split
    · next t ht => exact ih t (step s t ht h)
    · exact h

theorem State.givePlaces_keeps {P : State → Prop} (step : ∀ s t, s.grantPlace = some t → P s → P t)
    (h : P s) : P s.givePlaces := grantPlaces_keeps step _ s h

theorem firstHeld_mem {w : List MergeEntry} {e : MergeEntry} (h : firstHeld w = some e) :
    e ∈ w ∧ e.held = true := by
  induction w with
  | nil => cases h
  | cons x rest ih =>
    unfold firstHeld at h
    split at h
    · exact (ih h).imp_left (List.mem_cons_of_mem _)
    · next hx hr => cases h; exact ⟨List.mem_cons_self .., hx⟩
    · next other hx hr =>
      split at h
      · cases h; exact (ih hr).imp_left (List.mem_cons_of_mem _)
      · cases h; exact ⟨List.mem_cons_self .., hx⟩

/-! ### Carrying out a change (R103, R104) -/

theorem State.carryChange_ungated {apply : Request → State → Applied} {r : Request} :
    s.carryChange apply [] r = State.grantOk r (apply r s).2 (apply r s).1 := by
  simp [State.carryChange]

theorem State.carryChange_drained {apply : Request → State → Applied} {ds : List Nat} {r : Request}
    (h : ds ≠ []) (hd : s.gates.drained ds = true) :
    s.carryChange apply ds r = (s.setGates ds).applyPending apply
      { districts := ds, since := s.time.localMs } r := by
  simp [State.carryChange, h, hd]

theorem State.carryChange_waits {apply : Request → State → Applied} {ds : List Nat} {r : Request}
    (h : ds ≠ []) (hd : s.gates.drained ds = false) :
    s.carryChange apply ds r = s.setGates ds := by
  simp [State.carryChange, h, hd]

end Sys2Proof.Machine
end

