-- ==== Sys2Proof/Laws/Store.lean ====
section
/-! SUPPORT. What the nonvolatile store's operations can do, said once: the fields of a settings
block, the parts of a write, a write cut off, and the settings a start puts in force. -/

namespace Sys2Proof.Machine

variable {st : Store} {n : Nat}

/-! ### The numbers of a settings block -/

@[simp] theorem StoredSettings.values_mergeWindow (b : StoredSettings) :
    b.values.mergeWindow = b.mergeWindow.toNat := rfl
@[simp] theorem StoredSettings.values_sweepInterval (b : StoredSettings) :
    b.values.sweepInterval = b.sweepInterval.toNat := rfl
@[simp] theorem StoredSettings.values_dueHorizon (b : StoredSettings) :
    b.values.dueHorizon = b.dueHorizon.toNat := rfl
@[simp] theorem StoredSettings.values_changeWait (b : StoredSettings) :
    b.values.changeWait = b.changeWait.toNat := rfl
@[simp] theorem StoredSettings.values_noticeHold (b : StoredSettings) :
    b.values.noticeHold = b.noticeHold.toNat := rfl
@[simp] theorem StoredSettings.values_summaryInterval (b : StoredSettings) :
    b.values.summaryInterval = b.summaryInterval.toNat := rfl
@[simp] theorem StoredSettings.values_beaconLoss (b : StoredSettings) :
    b.values.beaconLoss = b.beaconLoss.toNat := rfl
@[simp] theorem StoredSettings.values_credentials (b : StoredSettings) :
    b.values.credentials = b.credentials.toNat := rfl

/-! ### A write cut off (R176) -/

/-- The check of a block cut off inside does not match its contents. -/
theorem tornBlockCheck_ne (b : StoredSettings) (e : BitVec 16) : tornBlockCheck b e ≠ b.check := by
  unfold tornBlockCheck
  intro h
  have hz : (if e = 0 then 1 else e) = (0 : BitVec 16) := by
    simpa [← BitVec.xor_assoc] using congrArg (b.check ^^^ ·) h
  split at hz
  · cases hz
  · contradiction

/-- A copy cut off where the new protection equals the old is as it was. -/
@[simp] theorem cutCopy_same (torn old a b : ProtectionCopy) : cutCopy torn old old a b = old := by
  simp [cutCopy]

/-- A copy cut off where the protection changes leaves the three copies unequal. -/
theorem cutCopy_unequal {torn old new a b : ProtectionCopy} (h : old ≠ new) :
    ¬ (cutCopy torn old new a b = a ∧ a = b) := by
  unfold cutCopy tornValue
  rw [if_neg h]
  rintro ⟨hc, rfl⟩
  split at hc
  · split at hc
    · next ha => exact h (hc.trans ha)
    · next ha => exact ha hc.symm
  · next ht => exact ht ⟨hc, rfl⟩

@[simp] theorem Store.cutOff_waiting : (st.cutOff n).waiting = none := rfl
@[simp] theorem Store.cutOff_writing : (st.cutOff n).writing = none := rfl

/-- With no write in progress a cut loses the pending record alone. -/
theorem Store.cutOff_idle (h : st.writing = none) : st.cutOff n = { st with waiting := none } := by
  cases st
  cases h
  rfl

/-- A cut inside the settings block leaves the copies, and a check that does not match. -/
theorem Store.cutOff_block {w : StoreWrite} (h : st.writing = some w) (hp : w.point = .block) :
    (st.cutOff n).copy1 = st.copy1 ∧ (st.cutOff n).copy2 = st.copy2 ∧
      (st.cutOff n).copy3 = st.copy3 ∧ (st.cutOff n).check ≠ (st.cutOff n).settings.check := by
  simp [Store.cutOff, h, hp, tornBlockCheck_ne]

/-- A cut outside the settings block leaves the block. -/
theorem Store.cutOff_settings (h : ∀ w, st.writing = some w → w.point ≠ .block) :
    (st.cutOff n).settings = st.settings ∧ (st.cutOff n).check = st.check := by
  cases hw : st.writing with
  | none => simp [Store.cutOff, hw]
  | some w => cases hp : w.point <;> simp_all [Store.cutOff]

/-- What the store holds now while no write is in progress is the stored record. -/
theorem State.heldNow_idle {s : State} (h : s.store.writing = none) :
    s.heldNow = { s.store with waiting := none } := Store.cutOff_idle h

/-! ### A write's parts (R176) -/

@[simp] theorem Store.finish_settings (w : StoreWrite) :
    (st.finish w).settings = w.record.settings := rfl
@[simp] theorem Store.finish_check (w : StoreWrite) :
    (st.finish w).check = w.record.settings.check := rfl
@[simp] theorem Store.finish_copy1 (w : StoreWrite) :
    (st.finish w).copy1 = w.record.protection := rfl
@[simp] theorem Store.finish_copy2 (w : StoreWrite) :
    (st.finish w).copy2 = w.record.protection := rfl
@[simp] theorem Store.finish_copy3 (w : StoreWrite) :
    (st.finish w).copy3 = w.record.protection := rfl
@[simp] theorem Store.finish_waiting (w : StoreWrite) : (st.finish w).waiting = st.waiting := rfl
@[simp] theorem Store.finish_writing (w : StoreWrite) : (st.finish w).writing = none := rfl

/-! ### What a start puts in force (R174, R175) -/

theorem clampTo_eq {low high n : Nat} (h : low ≤ high) :
    clampTo low high n = max low (min high n) := by
  unfold clampTo
  split
  · omega
  · split <;> omega

/-- The settings a record puts in force lie in their ranges (R174). -/
theorem Settings.clamped_inRange (v : Settings) : v.clamped.InRange := by
  constructor <;> simp only [Settings.clamped, clampTo] <;> (repeat' split) <;> omega

end Sys2Proof.Machine
end

