-- ==== Sys2Proof/Tests/Slice0.lean ====
section
/-! SUPPORT. Tests: the form checks of commands, planner-link bytes, one or two small tests a
command, and for each statement with hypotheses a state that meets them. Expected values are the
manual's: its worked sequences where a comment names one, else its rules worked by hand. -/

namespace Sys2Proof.Tests

-- One declaration at a time: as one text, many `decide` proofs at once need more threads than there are.
set_option Elab.async false

open Sys2Proof Sys2Proof.Machine Sys2Proof.Statements

/-! ### Helpers -/

/-- Does an outcome answer a next state that passes a test? -/
def ran (o : Host.Outcome State Fault Refusal) (p : State → Bool) : Bool :=
  match o with
  | .next t => p t
  | _ => false

/-- A running part as reset and a first start leave it, with the factory settings. -/
def running : State := { State.reset with phase := .running }

/-- The part at another local time. -/
def at_ (ms : Nat) (s : State) : State := { s with time := { s.time with localMs := ms } }

/-- A READING payload (12.1). -/
def reading (sensor count : Nat) (echoes : List Nat) (temp : Int) (flags battery : Nat) : List Byte :=
  List.flatten [bytes32 sensor, bytes16 count, [1, byte echoes.length], echoes.flatMap bytes16,
    signedBytes16 temp, [byte flags], bytes16 battery]

/-- A STATUS (2) or INSTALL (3) payload (12.1). -/
def short (kind sensor count flags battery : Nat) : List Byte :=
  List.flatten [bytes32 sensor, bytes16 count, [byte kind, byte flags], bytes16 battery]

/-- An offered frame with radio check PASS. -/
def offer (quality : Nat) (p : List Byte) : ChainFrame := ⟨byte quality, 1, byte p.length, p⟩

/-- The glass profile 3 of chapters 4 and 5. -/
def glass : Profile :=
  { kind := .glass, depth := 1650, mouth := 250,
    points := [(250, 1000), (600, 760), (1100, 380), (1650, 0)], weight := 4, track := 80,
    defaultTemp := 120, dueAt := 800, fullAt := 950, drop := 350, fastLimit := 500, minSpan := 3600,
    silenceLimit := 21600, batteryLimit := 3300 }

/-- The litter profile 7 of chapter 3. -/
def litter : Profile :=
  { glass with kind := .litter, depth := 1100, mouth := 150, points := [(150, 1000), (1100, 0)] }

/-- Bin 1,234 as the worked case of chapter 5 finds it. -/
def bell : Assigned :=
  { freshAssignment 6 3 3 0 with
    state := .active, offset := 6, lastCount := some 5501, lastHeard := 1080000, f16 := some 9600,
    surface := some 860, anchor := some { time := 1000000, f16 := 4800 }, rate := some 324,
    battery := some 3620 }

/-- A part with profiles 3 and 7, bin 1,234 ACTIVE in district 6, and its sensor translated. -/
def town : State :=
  { running with
    translation := { prefixes := ⟨[(5, ⟨1200, 6900⟩)]⟩, devices := ⟨[(7899, ⟨1234, 3⟩)]⟩ }
    bins := { records := ⟨[(1234, ⟨some 7899, false, some bell⟩)]⟩, calibration := ⟨[(1234, 6)]⟩
              sweepDue := some 300000 }
    profiles := ⟨[(3, glass), (7, litter)]⟩
    due := [⟨1234, 6, 1133333, false, false, false⟩]
    inForce := { running.inForce with settings := { factorySettings with credentials := 4 } } }

/-- A request of credential 0. -/
def ask (op : Nat) (args : List Byte) : Request := ⟨101, 0, op, args.length, args⟩

/-- A state with one request in its management queue. -/
def asked (r : Request) (s : State) : State :=
  { s with management := { s.management with queue := [r] } }

/-- The body of a MANAGEMENT frame that carries a request (12.3). -/
def bodyOf (r : Request) : List Byte :=
  List.flatten [bytes16 r.tag, [byte r.credential, byte r.op], bytes16 r.argLen, r.args]

/-- The argument block of a LOAD PROFILE of the litter profile with another depth and weight. -/
def profileArgs (n kind depth weight : Nat) : List Byte :=
  List.flatten [[byte n, byte kind], bytes16 depth, bytes16 150, [byte weight], bytes16 80,
    signedBytes16 120, [800, 950, 350, 500].flatMap bytes16, bytes32 3600, bytes32 21600,
    bytes16 3300, [2], [150, 1000, depth, 0].flatMap bytes16]

/-- The result of the last response handed on. -/
def lastResult (s : State) : Option Result := s.composer.responses.getLast?.map (·.result)

/-- The contents of the last response handed on. -/
def lastFrames (s : State) : List Contents :=
  match s.composer.responses.getLast? with
  | some r => r.frames
  | none => []

/-! ### Well-formed commands -/

theorem test_frame_shorter_than_its_length_is_ill_formed :
    (Instr.intakeFrameTake (some ⟨0, 1, 8, [1]⟩) none none none).wellFormed = false := by decide

theorem test_bin_8192_is_ill_formed : (Instr.estimateCompletion 8192).wellFormed = false := by decide

theorem test_body_of_1025_bytes_is_ill_formed :
    (Instr.managementFrame (List.replicate 1025 0)).wellFormed = false := by decide +kernel

theorem test_discarded_frame_that_passes_is_ill_formed :
    (Instr.inboundFrameDiscarded (linkFrame .pause [])).wellFormed = false := by decide +kernel

/-! ### Planner-link bytes (12.2), written out byte by byte -/

/-- The check of R146 over the nine digits 1 to 9 is 0x29B1, the value its polynomial is known by. -/
theorem test_crc_of_nine_digits :
    crc16 [0x31, 0x32, 0x33, 0x34, 0x35, 0x36, 0x37, 0x38, 0x39] = 0x29B1#16 := by decide +kernel

theorem test_pause_bytes :
    frameCommand (let head : List Byte := [0x12, 0, 0]; head ++ bytes16 (crc16 head).toNat) =
      .pause := by decide +kernel

theorem test_go_bytes :
    frameCommand (let head : List Byte := [0x13, 0, 0]; head ++ bytes16 (crc16 head).toNat) =
      .go := by decide +kernel

theorem test_time_bytes :
    frameCommand (let head : List Byte := [0x11, 0, 4, 0x65, 0x44, 0x33, 0x40]
                  head ++ bytes16 (crc16 head).toNat) = .timeBeacon 0x65443340 := by decide +kernel

/-- READ CONFIG with tag 5 from credential 0: a request header with an empty argument block. -/
theorem test_management_bytes :
    frameCommand (let head : List Byte := [0x10, 0, 6, 0, 5, 0, 0x15, 0, 0]
                  head ++ bytes16 (crc16 head).toNat) = .managementFrame [0, 5, 0, 0x15, 0, 0] := by
  decide +kernel

theorem test_outbound_kind_is_discarded :
    linkFault (linkFrame .notice []) = some .kind := by decide +kernel

theorem test_table_word_spells_nothing : decodeTableWord 8 0 = none := by decide

/-! ### Intake and merging -/

/-- Worked sequence of chapter 1, steps 1 to 3: qualities 140, 201, 201. -/
def copies : State :=
  { running with intake := { running.intake with
      window := [{ sensor := 0x05001A2B, count := 4117, quality := 140,
                   payload := reading 0x05001A2B 4117 [1, 2, 3] 0 0 0, openedAt := 86400120,
                   expiry := 86401620, held := false }] } }

theorem test_better_copy_replaces :
    ran (exec (.intakeFrameTake (some (offer 201 (reading 0x05001A2B 4117 [1, 2, 3] 0 0 0)))
        none none none) copies) (fun t =>
      t.intake.lastChain == 0 &&
        t.intake.window.map (fun e => (e.quality, e.openedAt)) == [(201, 86400120)]) = true := by
  decide +kernel

theorem test_weak_radio_ends_format :
    ran (exec (.intakeFrameTake none (some ⟨9, 0, 10, short 2 7 1 0 3000⟩) none none) running)
      (fun t => t.intake.window.isEmpty && t.gates.tally 16 2 == 1 &&
        t.watch.counter 16 12 == 1) = true := by
  decide +kernel

/-- Step 4: at its expiry the entry finds 16 frames admitted and becomes held. -/
theorem test_expiry_without_a_place_holds :
    ran (exec (.mergeEntryExpiry 0x05001A2B 4117)
        { at_ 86401620 copies with intake := { copies.intake with
            admission := List.replicate 16 ⟨[], 1, 0⟩ } })
      (fun t => t.intake.window.map (·.held) == [true]) = true := by
  decide +kernel

/-- Step 7: a place becomes free, and the held entry is released with its opened-at second. -/
theorem test_place_goes_to_the_held_entry :
    ran (exec .admissionPlaceGrant { town with intake := { copies.intake with
        window := copies.intake.window.map fun e => { e with held := true } } })
      (fun t => t.intake.window.isEmpty &&
        t.intake.admission.map (fun f => (f.bin, f.arrival)) == [(1234, 86400)]) = true := by
  decide +kernel

/-- Worked sequence of chapter 2: one sensor id for each test that fails, and one that passes. -/
theorem test_translation_faults :
    let s : State := { running with
      translation := { prefixes := ⟨[(5, ⟨1200, 6900⟩), (9, ⟨2560, 512⟩)]⟩
                       devices := ⟨[(2616, ⟨512, 7⟩), (2624, ⟨77, 0⟩), (7899, ⟨1234, 3⟩)]⟩ }
      bins := { running.bins with
        records := ⟨[(77, ⟨some 2624, false, none⟩),
          (512, ⟨some 2616, false, some { bell with district := 2, generation := 8 }⟩),
          (1234, ⟨some 7899, false, some bell⟩)]⟩ } }
    [0x4C000010#32, 0x0C000200, 0x05001AF4, 0x05001A2C, 0x09000040, 0x09000038, 0x05001A2B].map
        s.translate =
      [.fault .prefixRange 16 none, .fault .prefixInvalid 16 none, .fault .deviceRange 16 none,
        .fault .deviceInvalid 16 none, .fault .binEmpty 16 none,
        .fault .generation 2 (some 512), .found 1234 6] := by
  decide +kernel

/-! ### Estimates -/

/-- The frame of the worked case of chapter 5. -/
def bellFrame : Frame :=
  ⟨reading 0x05001A2B 5502 [212, 790, 905] 53 0 3610, 1234, 1086400⟩

/-- Its estimate in flight. -/
def inFlight (f : Frame) (s : State) : State :=
  { s with slots := [{ frame := f, district := 6, gap := none }], gates := s.gates.setCount 6 1 }

theorem test_estimate_starts :
    ran (exec .estimateStart { town with intake := { town.intake with admission := [bellFrame] } })
      (fun t => t.intake.admission.isEmpty && t.gates.count 6 == 1 &&
        t.slots.map (·.gap) == [none]) = true := by
  decide +kernel

theorem test_repeated_count_is_duplicate :
    ran (exec .estimateStart { town with intake := { town.intake with
        admission := [⟨short 2 1 5501 0 3000, 1234, 0⟩] } })
      (fun t => t.slots.isEmpty && t.gates.tally 6 9 == 1 && t.watch.counter 6 10 == 1) = true := by
  decide +kernel

/-- F16 9,200, rate 275, surface 876, due time 1,157,090. -/
theorem test_glass_estimate :
    ran (exec (.estimateCompletion 1234) (inFlight bellFrame
        { town with time := { town.time with state := .synced } }))
      (fun t => (t.assigned 1234).map (fun a => (a.f16, a.rate, a.surface, a.lastCount)) ==
          some (some 9200, some 275, some 876, some 5502) &&
        t.due == [⟨1234, 6, 1157090, false, false, false⟩] && t.gates.tally 6 0 == 1 &&
        t.gates.count 6 == 0 && t.slots.isEmpty) = true := by
  decide +kernel

/-- The second worked case: F16 592, offset −2, CAL_LIMIT −54, the due entry removed. -/
theorem test_clamped_collection :
    let a : Assigned :=
      { bell with
        lastCount := some 5529, f16 := some 12960, dueCrossed := some 1150000, rate := some 290
        surface := some 412 }
    let c := completion glass ⟨false, 1209600⟩ (reading 0x05001A2B 5530 [1660] 0 0 3610) 1171500
      none a (some 6)
    (c.record.f16, c.record.offset, c.learned, c.record.rate) = (some 592, -2, some (-2), none) ∧
      c.due = .removal ∧ c.details = [.calLimit] ∧
      c.events = [(.collected, 37), (.calLimit, -54)] := by
  decide +kernel

/-- The fourth sample of the worked sequence of chapter 3: offset 9, F16 48. -/
theorem test_fourth_sample :
    let a : Assigned := { freshAssignment 9 7 1 500000 with samples := [1112, 1109, 1115] }
    let c := learningReading litter ⟨false, 1209600⟩ ⟨1106, 1106⟩ false 505140 a none
    (c.record.state, c.record.offset, c.learned, c.record.f16, c.record.anchor) =
      (.active, 9, some 9, some 48, some ⟨505140, 48⟩) := by
  decide +kernel

/-- "Silent and back", step 2: the sweep at 1,108,200 finds bin 3,301 silent. -/
def quiet (seconds : Nat) : State :=
  { town with
    time := { town.time with localMs := seconds * 1000 }
    bins := { records := ⟨[(3301, ⟨none, false, some { bell with
                district := 4, profile := 7, lastHeard := 1086400, offset := -4,
                f16 := some 8000 }⟩)]⟩
              calibration := ⟨[(3301, -4)]⟩, sweepDue := some (seconds * 1000) }
    due := [⟨3301, 4, 1200000, false, false, false⟩] }

theorem test_sweep_makes_silent :
    ran (exec .silenceSweep (quiet 1108200)) (fun t =>
      (t.assigned 3301).map (·.state) == some .silent && t.due.map (·.silent) == [true] &&
        t.watch.notices.map (fun n => (n.cls, n.row, n.value)) == [(.silent, 4, 500)] &&
        t.bins.sweepDue == some 1108500000) = true := by
  decide +kernel

/-- Step 1: 21,500 s do not exceed 21,600 s. -/
theorem test_sweep_passes_a_heard_bin :
    ran (exec .silenceSweep (quiet 1107900)) (fun t =>
      (t.assigned 3301).map (·.state) == some .active) = true := by
  decide +kernel

/-! ### The link's inbound side -/

theorem test_short_body_is_malformed :
    ran (exec (.managementFrame [0, 1, 0, 2, 0]) running) (fun t =>
      t.management.queue.isEmpty && t.watch.counter 16 12 == 1) = true := by decide +kernel

theorem test_request_joins_the_queue :
    ran (exec (.managementFrame (bodyOf (ask 0x15 []))) running) (fun t =>
      t.management.queue == [ask 0x15 []]) = true := by decide +kernel

theorem test_first_beacon_is_a_step :
    ran (exec (.timeBeacon 1699000000) (at_ 5999 running)) (fun t =>
      t.time == { localMs := 5999, offset := 1698999995, state := .synced, lossRunning := true,
                  lastBeacon := some 5 } && t.composer.steps == 1) = true := by decide +kernel

theorem test_pause_sets_the_flag :
    ran (exec .pause running) (fun t => t.composer.paused) = true := by decide

theorem test_go_grants_at_once :
    ran (exec .go { running with composer := { running.composer with
        paused := true, startPending := true } })
      (fun t => !t.composer.paused && t.composer.sending.isSome) = true := by decide +kernel

theorem test_discarded_frame_is_counted :
    ran (exec (.inboundFrameDiscarded [0x12, 0, 0, 0, 0])
        { running with watch := running.watch.setMode 16 12 .notify })
      (fun t => t.watch.notices.map (fun n => (n.row, n.value)) == [(16, 0x3002)]) = true := by
  decide +kernel

/-! ### Requests -/

theorem test_load_prefix :
    ran (exec .loadPrefix (asked (ask 1 [4, 0, 10, 0, 20]) town)) (fun t =>
      t.translation.prefixes.get 4 == some ⟨10, 20⟩ &&
        lastFrames t == [.prefixWas none] && t.gates.change.isNone) = true := by decide +kernel

theorem test_clear_prefix :
    ran (exec .clearPrefix (asked (ask 2 [5]) town)) (fun t =>
      t.translation.prefixes.get 5 == none &&
        lastFrames t == [.prefixWas (some ⟨1200, 6900⟩)]) = true := by decide +kernel

theorem test_read_prefix :
    ran (exec .readPrefix (asked (ask 3 [5]) town)) (fun t =>
      lastFrames t == [.prefixIs true 1200 6900 0]) = true := by decide +kernel

theorem test_read_invalid_prefix :
    ran (exec .readPrefix (asked (ask 3 [6]) town)) (fun t =>
      lastFrames t == [.prefixIs false 0 0 0]) = true := by decide +kernel

theorem test_load_device_conflict :
    ran (exec .loadDevice (asked (ask 4 [0, 9, 0x04, 0xD2, 0]) town)) (fun t =>
      lastResult t == some .conflict && t.device 9 == none) = true := by decide +kernel

theorem test_load_device_moves_the_backlink :
    ran (exec .loadDevice (asked (ask 4 [0x1E, 0xDB, 0, 77, 0]) town)) (fun t =>
      t.device 7899 == some ⟨77, 0⟩ && (t.record 77).mapped == some 7899 &&
        (t.record 1234).mapped == none) = true := by decide +kernel

theorem test_clear_device :
    ran (exec .clearDevice (asked (ask 5 [0x1E, 0xDB]) town)) (fun t =>
      t.device 7899 == none && (t.record 1234).mapped == none &&
        lastFrames t == [.deviceWas (some ⟨1234, 3⟩)]) = true := by decide +kernel

theorem test_read_device_by_entry :
    ran (exec .readDeviceByEntry (asked (ask 6 [0, 0, 0, 0x1E, 0xDB]) town)) (fun t =>
      lastFrames t == [.deviceIs true 1234 3 (some true)]) = true := by decide +kernel

theorem test_read_invalid_device :
    ran (exec .readDeviceByEntry (asked (ask 6 [0, 0, 0, 0x1E, 0xDC]) town)) (fun t =>
      lastFrames t == [.deviceIs false 0 0 none]) = true := by decide +kernel

theorem test_unknown_device_form :
    ran (exec .readDeviceByEntry (asked (ask 6 [2, 0, 0, 0x1E, 0xDB]) town)) (fun t =>
      lastResult t == some .badArgument) = true := by decide +kernel

theorem test_read_device_by_sensor :
    ran (exec .readDeviceBySensor (asked (ask 6 [1, 5, 0, 0x1A, 0x2B]) town)) (fun t =>
      match lastFrames t with
      | [.sensorIs x] => x.result == none && x.entry == some 7899
      | _ => false) = true := by decide +kernel

/-- LOAD BIN of chapter 3: bin 2,050 becomes LEARNING at local 500,000. -/
theorem test_load_bin :
    ran (exec .loadBin (asked (ask 7 [0x08, 0x02, 9, 7, 1, 0]) (at_ 500000000 town))) (fun t =>
      t.assigned 2050 == some (freshAssignment 9 7 1 500000) &&
        lastFrames t == [.binLoaded .empty none none none .learning false]) = true := by
  decide +kernel

theorem test_retire_bin :
    ran (exec .retireBin (asked (ask 8 [0x04, 0xD2, 0]) town)) (fun t =>
      t.record 1234 == .vacant && t.learned 1234 == some 6 && t.due.isEmpty &&
        t.device 7899 == none) = true := by decide +kernel

theorem test_clear_district :
    ran (exec .clearDistrict (asked (ask 9 [6, 1]) town)) (fun t =>
      t.record 1234 == .vacant && t.learned 1234 == none &&
        lastFrames t == [.districtCleared 1 1]) = true := by decide +kernel

theorem test_read_bin :
    ran (exec .readBin (asked (ask 0x0A [0x04, 0xD2, 1]) town)) (fun t =>
      match lastFrames t with
      | [.binIs x] => x.fill == some 600 && x.calibration == some (true, 6) && x.state == .active
      | _ => false) = true := by decide +kernel

theorem test_glass_weight_is_held_as_four :
    ran (exec .loadProfile (asked (ask 0x0B (profileArgs 4 1 1100 6)) town)) (fun t =>
      (t.profiles.get 4).map (·.weight) == some 4 &&
        lastFrames t == [.profileLoaded false false true 4 0 0]) = true := by decide +kernel

theorem test_weight_nine_is_refused :
    ran (exec .loadProfile (asked (ask 0x0B (profileArgs 4 1 1100 9)) town)) (fun t =>
      lastResult t == some .badArgument && t.profiles.get 4 == none) = true := by decide +kernel

theorem test_read_profile :
    ran (exec .readProfile (asked (ask 0x0C [3]) town)) (fun t =>
      lastFrames t == [.profileIs glass 0 1 0]) = true := by decide +kernel

theorem test_read_outcomes :
    ran (exec .readOutcomes (asked (ask 0x0D [6]) town)) (fun t =>
      lastFrames t == [.outcomesAre (List.replicate 18 0) (some 0) 0 5]) = true := by decide +kernel

/-- The due list by rounds of chapter 7: bins 2,210 and then 812, 1,234, 1,777. -/
def rounds : State :=
  { running with
    time := { running.time with offset := 1699000000, state := .synced }
    due := [⟨812, 6, 1150000, true, false, false⟩, ⟨1234, 6, 1157090, false, false, false⟩,
      ⟨3301, 4, 1161500, false, true, false⟩, ⟨905, 9, 1163000, false, false, false⟩,
      ⟨2210, 4, 1170200, false, false, true⟩, ⟨1777, 6, 1181400, false, false, false⟩,
      ⟨3050, 4, 1190000, false, false, false⟩] }

theorem test_due_list_by_rounds :
    ran (exec .requestDueList (asked (ask 0x0E [0, 4, 1, 0, 2, 4, 6]) rounds)) (fun t =>
      match lastFrames t with
      | [.dueList f] => f.items.map (·.bin) == [2210, 812, 1234, 1777] && f.matching == 6 &&
          f.selected == 4 && f.items.map (·.due.toNat) ==
            [1700170200, 1700150000, 1700157090, 1700181400]
      | _ => false) = true := by decide +kernel

/-- The mask change of chapter 8: LID of row 9 becomes NOTIFY, one mask changed. -/
theorem test_load_watch_mask :
    ran (exec .loadWatchMask (asked (ask 0x0F [9, 0, 0x40, 1]) running)) (fun t =>
      t.watch.mode 9 6 == .notify && t.watch.mode 9 7 == .count &&
        lastFrames t == [.masksChanged 1]) = true := by decide +kernel

/-- Row 9 with REPEAT 212 and LID 3. -/
def counted : State := { running with watch := (running.watch.setCounter 9 10 212).setCounter 9 6 3 }

theorem test_read_counters :
    ran (exec .readCounters (asked (ask 0x10 [9, 0]) counted)) (fun t =>
      t.watch.counter 9 10 == 212) = true := by decide +kernel

theorem test_read_counters_reset :
    ran (exec .readCountersReset (asked (ask 0x10 [9, 1]) counted)) (fun t =>
      t.watch.counter 9 10 == 0 && t.watch.counter 9 6 == 0 &&
        match lastFrames t with
        | [.countersAre c _ _ _] => c == [0, 0, 0, 0, 0, 0, 3, 0, 0, 0, 212, 0, 0, 0, 0, 0]
        | _ => false) = true := by decide +kernel

theorem test_reset_counters_of_every_row :
    ran (exec .resetCounters (asked (ask 0x11 [0xFF, 0x04, 0]) counted)) (fun t =>
      t.watch.counter 9 10 == 0 && t.watch.counter 9 6 == 3 &&
        lastFrames t == [.countersWere [0, 0, 0, 0, 0, 0, 0, 0, 0, 0, 212, 0, 0, 0, 0, 0]]) = true := by
  decide +kernel

theorem test_load_authority :
    ran (exec .loadAuthority (asked (ask 0x12 [3, 0, 0xFF, 0, 1, 0, 0]) town)) (fun t =>
      t.authorityOf 3 == ⟨0x0FF00, 0x10000⟩ && lastFrames t == [.authorityWas ⟨0, 0⟩]) = true := by
  decide +kernel

/-- A row set is sent as 3 bytes with bits 17 to 23 clear (R181). -/
theorem test_row_set_bytes :
    rowSetBytes 0x1FFFF = [0x01, 0xFF, 0xFF] ∧
      (Contents.authorityWas ⟨0x0FF00, 0x10000⟩).rowSets = [[0, 0xFF, 0], [1, 0, 0]] := by
  decide +kernel

theorem test_load_authority_needs_credential_0 :
    ran (exec .loadAuthority (asked { ask 0x12 [3, 0, 0, 0, 0, 0, 0] with credential := 1 } town))
      (fun t => lastResult t == some .authDenied) = true := by decide +kernel

theorem test_read_authority :
    ran (exec .readAuthority (asked (ask 0x13 [0]) town)) (fun t =>
      lastFrames t == [.authorityIs ⟨0x1FFFF, 0x1FFFF⟩ 4 true]) = true := by decide +kernel

/-- STORE CONFIG of chapter 11: protection NONE, summary interval 20 s. -/
theorem test_store_config_reports_the_clamp :
    ran (exec .storeConfig (asked (ask 0x14 (List.flatten
        [[1500, 300, 14, 5, 2000, 20, 600, 4].flatMap bytes16, [0, 0, 0]])) town)) (fun t =>
      lastFrames t == [.configStored [.summaryInterval] false] &&
        t.store.waiting.map (·.settings.summaryInterval) == some 20) = true := by decide +kernel

theorem test_read_config :
    ran (exec .readConfig (asked (ask 0x15 []) running)) (fun t =>
      match lastFrames t with
      | [.configIs x] => x.inForce == factorySettings && x.timeState == .unset
      | _ => false) = true := by decide +kernel

theorem test_restart_keeps_its_tag :
    ran (exec .restart (asked { ask 0x16 [] with tag := 4410 } town)) (fun t =>
      t.phase == .starting (.command 4410) && t.bins.records == town.bins.records &&
        t.management.queue.isEmpty) = true := by decide +kernel

theorem test_unknown_operation :
    ran (exec .unknownOp (asked (ask 0x17 []) running)) (fun t =>
      lastResult t == some .unknownOp && t.management.queue.isEmpty) = true := by decide +kernel

theorem test_credential_out_of_use :
    ran (exec .readBin (asked { ask 0x0A [8, 2, 0] with credential := 5 } town)) (fun t =>
      lastResult t == some .authRange) = true := by decide +kernel

theorem test_protected_row :
    ran (exec .loadPrefix (asked (ask 1 [4, 0, 10, 0, 20])
        { town with inForce := { town.inForce with protection := .all } })) (fun t =>
      lastResult t == some .rowProtected) = true := by decide +kernel

/-! ### Gated changes -/

/-- A LOAD BIN that moves bin 1,234 to district 10 while an estimate of district 6 is in flight. -/
def moving : State :=
  let s := inFlight { bellFrame with bin := 1235 } (asked (ask 7 [0x04, 0xD2, 10, 3, 4, 0]) town)
  { s with gates := { s.gates.setStates [6, 10] .changing with
                        change := some { districts := [6, 10], since := 1000 } } }

theorem test_change_waits :
    ran (exec .loadBin (inFlight { bellFrame with bin := 1235 }
        (asked (ask 7 [0x04, 0xD2, 10, 3, 4, 0]) (at_ 1000 town)))) (fun t =>
      t.gates.change == some { districts := [6, 10], since := 1000 } &&
        t.gates.state 10 == .changing && (t.assigned 1234).map (·.district) == some 6) = true := by
  decide +kernel

theorem test_change_is_applied :
    ran (exec .changeApplication { moving with gates := moving.gates.setCount 6 0, slots := [] })
      (fun t => (t.assigned 1234).map (·.district) == some 10 && t.gates.state 6 == .opened &&
        t.due.map (·.district) == [10] && lastResult t == some .ok) = true := by
  decide +kernel

theorem test_change_times_out :
    ran (exec .changeTimeout (at_ 6000 moving)) (fun t =>
      (t.assigned 1234).map (·.district) == some 6 && t.gates.state 6 == .opened &&
        lastResult t == some .timeout && t.gates.count 6 == 1) = true := by
  decide +kernel

/-- R107: the last gated estimate has completed first, so the expiry does nothing. -/
theorem test_drained_change_does_not_time_out :
    ran (exec .changeTimeout (at_ 6000 { moving with gates := moving.gates.setCount 6 0 }))
      (fun t => t.gates.change == moving.gates.change && t.gates.state 6 == .changing &&
        lastResult t == none) = true := by
  decide +kernel

/-! ### The composer -/

/-- A running part with a response, a START frame, notices and debt to send. -/
def talking (c : Composer) (notices : Nat) : State :=
  { running with
    composer := c
    watch := { running.watch with
      notices := List.replicate notices (noticeOf running.time false ⟨.due, 1, some 1, none, 5⟩) } }

theorem test_start_grant :
    ran (exec .startGrant (talking { Composer.reset with startPending := true, debt := 1 } 8)) (fun t =>
      t.composer.sending.bind OutFrame.body ==
        some [0, 0, 0, 0, 0, 0x81, 0x40, 2, 0, 0]) = true := by decide +kernel

theorem test_response_grant :
    ran (exec .responseGrant (talking { Composer.reset with
        responses := [⟨258, 3, .badArgument, [.nothing]⟩] } 8)) (fun t =>
      t.composer.responses.isEmpty &&
        t.composer.sending.bind OutFrame.body == some [1, 2, 3, 6]) = true := by decide +kernel

theorem test_notice_grant :
    ran (exec .noticeGrant (talking .reset 9)) (fun t =>
      t.watch.notices.length == 1 && (t.composer.sending.bind OutFrame.body).map (·.length) ==
        some 145) = true := by decide +kernel

theorem test_forced_summary_grant :
    ran (exec .summaryGrant (talking { Composer.reset with
        pendingSummary := some .forced, debt := 8, rotation := 5 } 128)) (fun t =>
      t.composer.rotation == 6 && t.composer.debt == 8 && t.composer.pendingSummary == none &&
        (t.composer.sending.bind OutFrame.body).map (·.length) == some 25) = true := by
  decide +kernel

theorem test_catch_up_summary :
    ran (exec .catchUpSummary (talking { Composer.reset with debt := 8, rotation := 15 } 3)) (fun t =>
      t.composer.rotation == 0 && t.composer.debt == 7) = true := by decide +kernel

theorem test_transmission_end_grants_the_next :
    ran (exec .transmissionEnd (talking { Composer.reset with
        sending := some (.notice []), debt := 1 } 0)) (fun t =>
      t.composer.debt == 0 && t.composer.sending.isSome) = true := by decide +kernel

theorem test_notice_hold_expiry :
    ran (exec .noticeHoldExpiry (at_ 2000 (talking .reset 3))) (fun t =>
      t.watch.notices.isEmpty && t.composer.sending.isSome) = true := by decide +kernel

theorem test_summary_timer_under_pause :
    ran (exec .summaryTimerExpiry (at_ 900000 (talking { Composer.reset with
        paused := true, debt := 8, summaryDue := some 900000 } 0))) (fun t =>
      t.composer.pendingSummary == some .forced && t.composer.debt == 8 &&
        t.composer.summaryDue == some 1800000) = true := by decide +kernel

/-- Chapter 8, "notices while the link is paused", step 2: one place is left for a group of two. -/
theorem test_group_meets_a_full_queue :
    let s : State := { talking .reset 127 with
      watch := (talking .reset 127).watch.setMode 6 8 .notify }
    let t := s.raiseGroup [⟨.collected, 6, some 1234, none, 37⟩, ⟨.calLimit, 6, some 1234, none, -54⟩]
    (t.watch.notices.length, t.watch.counter 6 8, t.watch.notices.getLast?.map (·.companion)) =
      (128, 1, some true) := by
  decide +kernel

/-! ### Time, the store and starts -/

theorem test_beacon_loss :
    ran (exec .beaconLossExpiry { running with
        time :=
          { localMs := 600000, offset := 7, state := .synced, lossRunning := true
            lastBeacon := some 0 } }) (fun t =>
      t.time.state == .freeRun && t.time.offset == 7 && !t.time.lossRunning) = true := by
  decide +kernel

/-- The record of the STORE CONFIG of chapter 11. -/
def newRecord : StartRecord :=
  { settings := { factoryBlock with summaryInterval := 20, credentials := 4 },
    protection := ⟨0, 0⟩ }

theorem test_store_write_begin :
    ran (exec .storeWriteBegin { running with store := { running.store with
        waiting := some newRecord } }) (fun t =>
      t.store.waiting == none && t.store.writing == some ⟨newRecord, .block⟩) = true := by
  decide +kernel

theorem test_store_write_end :
    ran (exec .storeWriteEnd { running with store := { running.store with
        writing := some ⟨newRecord, .copy2⟩ } }) (fun t =>
      t.store.settings == newRecord.settings && t.store.copy3 == ⟨0, 0⟩ &&
        t.store.check == newRecord.settings.check) = true := by decide +kernel

/-- Chapter 11, step 3: block and copy 1 written, copies 2 and 3 old. -/
theorem test_start_after_a_mismatch :
    ran (exec .startComplete { State.reset with store := { Store.factory with
        settings := newRecord.settings, check := newRecord.settings.check, copy1 := ⟨0, 0⟩,
        copy2 := ⟨1, 0x1008⟩, copy3 := ⟨1, 0x1008⟩ } }) (fun t =>
      t.inForce.protection == .all && t.inForce.status == .protectMismatch &&
        t.inForce.settings.summaryInterval == 60 && t.inForce.clamps == [.summaryInterval] &&
        t.composer.startPending) = true := by decide +kernel

theorem test_start_after_reset :
    ran (exec .startComplete .reset) (fun t =>
      t.phase == .running && t.inForce.settings == factorySettings && t.inForce.status == .ok &&
        t.composer.summaryDue == some 900000 && t.bins.sweepDue == some 300000) = true := by
  decide +kernel

theorem test_power_on_empties_the_tables :
    ran (exec .powerOn { town with phase := .off }) (fun t =>
      t.phase == .starting .powerOn && t.bins == .reset && t.profiles == .empty &&
        t.store == town.store) = true := by decide +kernel

theorem test_power_loss :
    ran (exec .powerLoss { town with store := { town.store with waiting := some newRecord } })
      (fun t => t.phase == .off && t.store == Store.factory) = true := by decide +kernel

theorem test_reset_line_keeps_the_tables :
    ran (exec .resetLineAssert town) (fun t =>
      t.phase == .starting .resetLine && t.resetLine && t.bins.records == town.bins.records &&
        t.due == town.due) = true := by decide +kernel

theorem test_reset_line_release :
    ran (exec .resetLineRelease { town with resetLine := true }) (fun t => !t.resetLine) = true := by
  decide

/-! ### States that meet the hypotheses of the statements

One theorem a statement, named after it; each clause has a state and operands that meet its
hypotheses, at a boundary where the clause has one. -/

/-- The canonical forms as a test. -/
def canonicalTest (s : State) : Bool :=
  [ s.translation.prefixes.wf, s.translation.devices.wf,
    s.bins.records.canonical (fun _ => .vacant), s.bins.calibration.wf, s.profiles.wf,
    s.gates.states.canonical (fun _ => .opened), s.gates.inFlight.canonical (fun _ => 0),
    s.gates.tallies.canonical (fun _ => 0),
    s.watch.masks.canonical (fun k => defaultMode (k % classCount)),
    s.watch.counters.canonical (fun _ => 0),
    s.management.authority.canonical (fun _ => .nothing) ].all id

theorem canonical_of {s : State} (h : canonicalTest s = true) : s.Canonical := by
  simp only [canonicalTest, List.all_cons, List.all_nil, Bool.and_true, Bool.and_eq_true, id] at h
  obtain ⟨h1, h2, h3, h4, h5, h6, h7, h8, h9, h10, h11⟩ := h
  exact ⟨h1, h2, h3, h4, h5, h6, h7, h8, h9, h10, h11⟩

theorem keys_of {s : State}
    (h : s.intake.window.Pairwise fun e f => e.hasKey f.sensor f.count = false) :
    s.KeysDistinct := h

theorem takes_of {s : State} {c0 c1 c2 c3 : Option ChainFrame} {chain : Nat} {f : ChainFrame}
    (h : s.phase = .running ∧ chooseChain s.intake.lastChain [c0, c1, c2, c3] = some (chain, f)) :
    Takes s c0 c1 c2 c3 chain f := h

theorem newKey_of {s : State} {p : List Byte}
    (h : ∀ e ∈ s.intake.window, ¬ (e.sensor = sensorOf p ∧ e.count = countOf p)) : NewKey s p := h

theorem passes_of {s : State} {r : Request} {op : Operation}
    (h : s.head = some r ∧ r.operation = some op ∧ headCheck s r = none) : Passes s r op := h

theorem witness_IdleStepTakesItsOwnStepOrTicks :
    (State.reset.pending = [] ∧ State.reset.ownStep = some .startComplete) ∧
    (running.pending = [] ∧ running.ownStep = none ∧ running.phase ≠ .off ∧
      running.store.writing = none) := by decide +kernel

theorem witness_InboundFramesReadBack :
    (Instr.managementFrame (List.replicate 1024 255)).wellFormed = true ∧
      (commandFrame (.managementFrame (List.replicate 1024 255))).isSome = true := by
  decide +kernel

theorem witness_DiscardedFrameRaisesMalformed :
    running.phase = .running ∧ linkFault [0x12, 0, 0, 0] = some .short ∧
      linkFault [0x12, 0, 0, 0, 0] = some .check ∧
      linkFault (let h : List Byte := [0x12, 0, 1]; h ++ bytes16 (crc16 h).toNat) = some .length ∧
      linkFault (linkFrame .start []) = some .kind ∧
      linkFault (linkFrame .time [0, 0, 0]) = some .length := by decide +kernel

theorem witness_PortServesChainsRoundRobin :
    chooseChain 3 [none, none, none, some (offer 1 [])] = some (3, offer 1 []) ∧
      chooseChain 3 [none, none, none, none] = none := by decide +kernel

/-- A frame of a new key, offered on chain 3. -/
def fresh : ChainFrame := offer 200 (short 2 9 1 0 3000)

/-- A merge entry of another sensor. -/
def other (n : Nat) : MergeEntry := ⟨BitVec.ofNat 32 (100 + n), 1, 5, short 2 (100 + n) 1 0 0, 0, 9, false⟩

/-- The part with a window of `n` entries, a window length and a number of admitted frames. -/
def waiting (n w admitted : Nat) : State :=
  { running with
    intake := { lastChain := 3, window := (List.range n).map other
                admission := List.replicate admitted ⟨[], 1, 0⟩ }
    inForce := { running.inForce with
      settings := { factorySettings with mergeWindow := w } } }

theorem witness_CopyMergesOrOpensAnEntry :
    (copies.Canonical ∧ copies.KeysDistinct ∧
      Takes copies none none none (some (offer 141 (reading 0x05001A2B 4117 [1, 2, 3] 0 0 0))) 3
        (offer 141 (reading 0x05001A2B 4117 [1, 2, 3] 0 0 0)) ∧
      formFault 1 (reading 0x05001A2B 4117 [1, 2, 3] 0 0 0) = none) ∧
    ((waiting 63 1 0).Canonical ∧ Takes (waiting 63 1 0) none none none (some fresh) 3 fresh ∧
      formFault 1 fresh.bytes = none ∧ NewKey (waiting 63 1 0) fresh.bytes ∧
      (waiting 63 1 0).intake.window.length < 64) ∧
    ((waiting 63 0 16).Canonical ∧ Takes (waiting 63 0 16) none none none (some fresh) 3 fresh ∧
      NewKey (waiting 63 0 16) fresh.bytes ∧ 16 ≤ (waiting 63 0 16).intake.admission.length) ∧
    ((waiting 63 0 15).Canonical ∧ Takes (waiting 63 0 15) none none none (some fresh) 3 fresh ∧
      NewKey (waiting 63 0 15) fresh.bytes ∧ (waiting 63 0 15).openDeferred = none) := by
  refine ⟨⟨canonical_of ?_, keys_of ?_, takes_of ?_, ?_⟩, ⟨canonical_of ?_, takes_of ?_, ?_,
    newKey_of ?_, ?_⟩, ⟨canonical_of ?_, takes_of ?_, newKey_of ?_, ?_⟩, ⟨canonical_of ?_,
    takes_of ?_, newKey_of ?_, ?_⟩⟩ <;> decide +kernel

theorem witness_FormChecksAndTheirFailure :
    running.Canonical ∧
    Takes running (some ⟨1, 0, 10, short 2 7 1 0 0⟩) none none none 0 ⟨1, 0, 10, short 2 7 1 0 0⟩ ∧
    formFault 0 (short 2 7 1 0 0) = some .radioCheck ∧ formFault 1 [0, 0, 0, 0, 0, 0] = some .length ∧
    formFault 1 (short 4 7 1 0 0) = some .badKind ∧
    formFault 1 (reading 7 1 [1, 2, 3, 4, 5] 0 0 0) = some .echoCount ∧
    formFault 1 (short 2 7 1 0 0 ++ [0]) = some .length := by
  refine ⟨canonical_of ?_, takes_of ?_, ?_⟩ <;> decide +kernel

theorem witness_FullWindowReleasesEarlyOrRefuses :
    ((waiting 64 1 16).Canonical ∧ (waiting 64 1 16).KeysDistinct ∧
      Takes (waiting 64 1 16) none none none (some fresh) 3 fresh ∧
      formFault 1 fresh.bytes = none ∧ NewKey (waiting 64 1 16) fresh.bytes ∧
      (waiting 64 1 16).intake.window = other 0 :: (waiting 64 1 16).intake.window.tail ∧
      (waiting 64 1 16).intake.window.tail.length = 63 ∧
      16 ≤ (waiting 64 1 16).intake.admission.length) ∧
    ((waiting 64 1 15).Canonical ∧ (waiting 64 1 15).KeysDistinct ∧
      Takes (waiting 64 1 15) none none none (some fresh) 3 fresh ∧
      NewKey (waiting 64 1 15) fresh.bytes ∧ (waiting 64 1 15).intake.admission.length < 16 ∧
      (waiting 64 1 15).openDeferred = none ∧
      0 < (waiting 64 1 15).inForce.settings.mergeWindow) ∧
    ((waiting 64 0 15).Canonical ∧ (waiting 64 0 15).KeysDistinct ∧
      Takes (waiting 64 0 15) none none none (some fresh) 3 fresh ∧
      NewKey (waiting 64 0 15) fresh.bytes ∧ (waiting 64 0 15).openDeferred = none ∧
      (waiting 64 0 15).inForce.settings.mergeWindow = 0) := by
  refine ⟨⟨canonical_of ?_, keys_of ?_, takes_of ?_, ?_, newKey_of ?_, ?_⟩, ⟨canonical_of ?_,
    keys_of ?_, takes_of ?_, newKey_of ?_, ?_⟩, ⟨canonical_of ?_, keys_of ?_, takes_of ?_,
    newKey_of ?_, ?_⟩⟩ <;> decide +kernel

theorem witness_ExpiringEntryIsReleasedOrHeld :
    ((waiting 2 1 15).Canonical ∧ (waiting 2 1 15).KeysDistinct ∧
      (at_ 9 (waiting 2 1 15)).intake.window = [other 0] ++ other 1 :: [] ∧ (other 1).expiry ≤ 9 ∧
      (other 1).held = false ∧ (waiting 2 1 15).openDeferred = none) ∧
    16 ≤ (waiting 2 1 16).intake.admission.length := by
  refine ⟨⟨canonical_of ?_, keys_of ?_, ?_⟩, ?_⟩ <;> decide +kernel

/-- Every outcome of a release: the sensor ids of `test_translation_faults` name one state for each
fault; here a frame is found in an OPEN district, in a CHANGING one, and with the queue full. -/
theorem witness_Released :
    town.translate 0x05001A2B = .found 1234 6 ∧ town.gates.state 6 = .opened ∧
      moving.translate 0x05001A2B = .found 1234 6 ∧ moving.gates.state 6 ≠ .opened ∧
      moving.gates.deferred.length < 32 ∧
      ¬ (List.replicate 32 (⟨bellFrame, 6⟩ : DeferredFrame)).length < 32 := by decide +kernel

theorem witness_TranslationMakesItsTestsInOrder :
    (0x40000000#32).toNat / 16777216 = 64 ∧ (0x3F000000#32).toNat / 16777216 = 63 ∧
      town.translation.prefixes.get 63 = none ∧ town.translation.prefixes.get 5 = some ⟨1200, 6900⟩ ∧
      town.device (1200 + 6899) = none ∧ town.device (1200 + 6699) = some ⟨1234, 3⟩ ∧
      town.assigned 77 = none ∧ town.assigned 1234 = some bell := by decide +kernel

/-- The town with the entry of `copies` held and a deferred frame of district `d`, its gate in a
state. -/
def granting (d : Nat) (x : GateState) : State :=
  { town with
    intake := { copies.intake with window := copies.intake.window.map fun e => { e with held := true } }
    gates := { town.gates.setState x d with deferred := [⟨bellFrame, d⟩] } }

/-- A deferred frame of an OPEN district; one of a CHANGING district, behind which a held entry meets
an OPEN gate; and held entries that fault, of equal expiries. -/
theorem witness_AdmissionPlacesAreGivenUntilNoneIsLeft :
    ((granting 6 .opened).phase = .running ∧ (granting 6 .opened).intake.admission.length < 16 ∧
      (granting 6 .opened).openDeferred = some ⟨bellFrame, 6⟩ ∧ (granting 6 .opened).Canonical ∧
      (granting 6 .opened).KeysDistinct) ∧
    ((granting 10 .changing).openDeferred = none ∧
      firstHeld (granting 10 .changing).intake.window = (granting 10 .changing).intake.window.head? ∧
      (granting 10 .changing).translate (sensorOf (reading 0x05001A2B 4117 [1, 2, 3] 0 0 0)) =
        .found 1234 6 ∧ (granting 10 .changing).gates.state 6 = .opened) ∧
    (firstHeld [{ other 0 with held := true }, { other 1 with held := true }] =
        some { other 0 with held := true } ∧
      running.translate (sensorOf (other 0).payload) = .fault .prefixInvalid 16 none) := by
  refine ⟨⟨?_, ?_, ?_, canonical_of ?_, keys_of ?_⟩, ?_, ?_⟩ <;> decide +kernel

/-- The part with two admitted frames, of which the first waits for its bin. -/
def admitted (count : Nat) (kind : Nat) : State :=
  inFlight { bellFrame with bin := 1235 } { town with
    intake := { town.intake with
      admission := [⟨[], 1235, 0⟩, ⟨short kind 0x05001A2B count 0 3000, 1234, 0⟩] } }

theorem witness_AcceptedFrameTakesASlot :
    (admitted 1 3).slots.length < 4 ∧ (∃ e ∈ (admitted 1 3).slots, e.frame.bin = 1235) ∧
    (∀ e ∈ (admitted 1 3).slots, e.frame.bin ≠ 1234) ∧ (admitted 1 3).assigned 1234 = some bell ∧
    kindOf (short 3 0x05001A2B 1 0 3000) = some .install ∧
    kindOf (short 2 0x05001A2B 5502 0 3000) ≠ some .install ∧
    (countOf (short 2 0x05001A2B 5502 0 3000) - 5501).toNat = 1 ∧
    (countOf (short 2 0x05001A2B 38268 0 3000) - 5501).toNat = 32767 ∧
    (freshAssignment 6 3 3 0).lastCount = none := by decide +kernel

theorem witness_SuppressedFrameLeavesTheRecord :
    (admitted 5501 2).Canonical ∧ (admitted 5501 2).slots.length < 4 ∧
    (admitted 5501 2).assigned 1234 = some bell ∧ bell.lastCount = some 5501 ∧
    countOf (short 2 0x05001A2B 5501 0 3000) = 5501 ∧
    (countOf (short 2 0x05001A2B 38269 0 3000) - 5501).toNat = 32768 ∧
    (admitted 5501 2).assigned 1236 = none := by
  refine ⟨canonical_of ?_, ?_⟩ <;> decide +kernel

/-- The part with the estimate of the worked case of chapter 5 in flight. -/
def busy : State := { inFlight bellFrame town with pending := [.estimateCompletion 1234] }

theorem busy_assigned (b : Nat) : busy.assigned b = if 1234 = b then some bell else none := by
  by_cases h : 1234 = b
  · subst h; rfl
  · simp [State.assigned, State.record, busy, inFlight, town, Table.read, Table.get, findEntry, h,
      BinRecord.vacant]

theorem busy_learned (b : Nat) : busy.learned b = if 1234 = b then some 6 else none := by
  simp [State.learned, busy, inFlight, town, Table.get, findEntry]

theorem busy_canonical : busy.Canonical := canonical_of (by decide +kernel)

theorem busy_inFlight : busy.InFlightSound where
  bins := by decide +kernel
  counts := by
    intro d
    by_cases h : 6 = d
    · subst h; rfl
    · have h' : (6 == d) = false := by simpa using h
      simp [busy, inFlight, town, running, State.reset, Gates.reset, Gates.count, Gates.setCount,
        Table.read, Table.write, Table.set, Table.get, Table.empty, putEntry, findEntry, h]

theorem witness_CompletionWritesItsBinAndFreesItsSlot :
    busy.Canonical ∧ busy.InFlightSound ∧ busy.phase = .running ∧
      (⟨bellFrame, 6, none⟩ : Estimate) ∈ busy.slots ∧ busy.assigned bellFrame.bin = some bell :=
  ⟨busy_canonical, busy_inFlight, rfl, by decide +kernel, rfl⟩

/-- Bins that are not SILENT, SILENT with and without a learned entry; each kind; a reading without
an echo, and one whose echo stands above the mouth; battery values at the limits. -/
theorem witness_StatusInstallAndBlindFramesAddNoFill :
    bell.state ≠ .silent ∧ ({ bell with state := .silent }).state = .silent ∧
    some (6 : Int) ≠ none ∧ kindOf (short 2 1 1 0 0) = some .status ∧
    kindOf (short 3 1 1 0 0) = some .install ∧ kindOf (reading 1 1 [] 0 0 0) = some .reading ∧
    echoesUsed glass 0 (reading 1 1 [] 0 0 0) = [] ∧
    echoesUsed glass bell.offset (reading 1 1 [212] 53 0 0) = [] ∧
    batteryOf (short 2 1 1 0 3299) = some 3299 ∧ batteryOf (short 2 1 1 0 3401) = some 3401 ∧
    batteryOf (short 2 1 1 0 0xFFFF) = none := by
  decide +kernel

theorem witness_CorrectedDistanceFollowsTheSpeedOfSound :
    (0 : Int) ≤ 0 ∧ ((-400 : Int) ≤ 700 ∧ (4094 : Nat) ≤ 4094) := by decide

theorem witness_FillFollowsTheBreakpoints :
    glass.inRange = true ∧ (250 : Int) ≤ glass.mouth ∧ (glass.depth : Int) ≤ 1650 ∧
    glass.points = [(250, 1000)] ++ (600, 760) :: (1100, 380) :: [(1650, 0)] ∧ 600 ≤ 1099 := by
  decide +kernel

theorem witness_SmoothingMovesTowardTheSample :
    glass.weight ≤ 8 ∧ ({ glass with weight := 8 }).weight ≤ 8 ∧ 8800 ≤ 550 * 16 ∧
      550 * 16 ≤ 8800 := by decide

/-- Tracking, the lower median and the litter selection; both sides of the floor test, surfaces 1,549
and 1,550 with a depth of 1,650; a correction at the clamp and one beyond it. -/
theorem witness_CollectionStartsTheFillAgain :
    (bell.state = .active ∧ kindOf bellFrame.payload = some .reading ∧
      selectActive glass bell.surface (echoesUsed glass bell.offset bellFrame.payload) =
        some ⟨882, 876⟩) ∧
    selectActive glass none [⟨770, 764⟩, ⟨882, 876⟩] = some ⟨770, 764⟩ ∧
    selectActive litter (some 860) [⟨882, 876⟩, ⟨770, 764⟩] = some ⟨770, 764⟩ ∧
    (glass.inRange = true ∧ bell.f16 = some 9600 ∧
      mapFill glass 1549 + glass.drop ≤ (9600 + 8) / 16 ∧
      mapFill glass 1550 + glass.drop ≤ (9600 + 8) / 16 ∧ (1549 : Int) < glass.depth - 100 ∧
      (glass.depth : Int) - 100 ≤ 1550 ∧ (1648 : Int) - glass.depth - bell.offset = -8 ∧
      (1602 : Int) - glass.depth - bell.offset = -54) := by decide +kernel

/-- The three cases of the due update; a reading that is no collection (876 mm, fill 550 against a
reported fill of 600), on a bin without F16 and on one whose anchor is at the minimum span, one second
short of it, and more than seven days old. -/
theorem witness_DueUpdateFollowsTheRate :
    (({ bell with dueCrossed := some 5 }).dueCrossed = some 5 ∧ bell.dueCrossed = none ∧
      ({ bell with rate := some 0 }).rate = some 0 ∧ bell.rate = some 324 ∧ bell.f16 = some 9600 ∧
      (3200 * 86400) / (16 * 324) = 53333) ∧
    (glass.inRange = true ∧ mapFill glass 876 = 550 ∧ (9600 + 8) / 16 < 550 + glass.drop ∧
      smoothed glass 550 bell.f16 = 9200 ∧ (freshAssignment 6 3 3 0).f16 = none ∧
      bell.anchor = some { time := 1000000, f16 := 4800 } ∧ glass.minSpan ≤ 1003600 - 1000000 ∧
      1003599 - 1000000 < glass.minSpan ∧ 604800 < 1604801 - 1000000) := by decide +kernel

theorem witness_FourthSampleMakesTheBinActive :
    ((freshAssignment 9 7 1 0).state = .learning ∧ kindOf (reading 1 1 [1100, 900] 200 0 0) =
        some .reading ∧
      selectLearning litter (echoesUsed litter 0 (reading 1 1 [900, 1100] 200 0 0)) =
        some ⟨1100, 1100⟩ ∧ (freshAssignment 9 7 1 0).samples.length < 3) ∧
    ({ bell with samples := [1112, 1109, 1115] }).samples.length = 3 ∧ litter.inRange = true ∧
    1109 ∈ [1112, 1109, 1115] ++ [1106] ∧
    (([1112, 1109, 1115] ++ [1106]).filter fun x => decide (x < 1109)).length ≤ 1 ∧
    2 ≤ (([1112, 1109, 1115] ++ [1106]).filter fun x => decide (x ≤ 1109)).length := by
  decide +kernel

theorem bell_inRange : bell.InRange where
  offset := by decide
  samples := by decide
  f16 := by intro v h; cases h; decide
  anchor := by intro k h; cases h; decide
  rate := by intro v h; cases h; decide
  battery := by intro v h; cases h; decide

theorem witness_CompletionKeepsFieldsInRange :
    glass.inRange = true ∧ bell.InRange ∧ ∀ v, some (6 : Int) = some v → -120 ≤ v ∧ v ≤ 120 :=
  ⟨by decide +kernel, bell_inRange, by intro v h; cases h; decide⟩

/-- A bin unheard for one second longer than its silence limit, and one unheard for just the
limit. -/
theorem witness_SweepMakesUnheardBinsSilent :
    (quiet 1108001).Canonical ∧ (quiet 1108001).phase = .running ∧
    (quiet 1108001).bins.sweepDue = some 1108001000 ∧ 1108001000 ≤ (quiet 1108001).time.localMs ∧
    (∃ a, (quiet 1108001).assigned 3301 = some a ∧ UnheardTooLong (quiet 1108001) 3301 a) ∧
    ∃ a, (quiet 1108000).assigned 3301 = some a ∧ ¬ UnheardTooLong (quiet 1108000) 3301 a := by
  refine ⟨canonical_of (by decide +kernel), rfl, rfl, by decide +kernel,
    ⟨_, rfl, by decide +kernel, by decide +kernel, by decide +kernel⟩, ⟨_, rfl, ?_⟩⟩
  rintro ⟨-, -, h⟩
  exact absurd h (by decide +kernel)

theorem witness_EventsAreIgnoredCountedOrQueued :
    (running.watch.setMode 2 9 .off).mode 2 9 = .off ∧ running.watch.mode 2 9 = .count ∧
    (talking .reset 128).watch.mode 2 0 = .notify ∧
    128 ≤ (talking .reset 128).watch.notices.length ∧ running.Canonical ∧
    (running.watch.setCounter 9 10 65535).counter 9 10 ≤ 65535 := by
  refine ⟨?_, ?_, ?_, ?_, canonical_of ?_, ?_⟩ <;> decide +kernel

/-- A queue of `n` entries, bin `i` due at `i`. -/
def queued (n : Nat) : State :=
  { running with due := (List.range n).map fun i => ⟨i, 1, i, false, false, false⟩ }

theorem witness_PredictionIsPlacedEvictsOrIsRefused :
    (queued 512).Canonical ∧
    (queued 511).due.length < 512 ∧
    (queued 512).due = (queued 511).due ++ [⟨511, 1, 511, false, false, false⟩] ∧
    (queued 512).due.length = 512 ∧
    (⟨600, 1, 510, false, false, false⟩ : DueEntry).before ⟨511, 1, 511, false, false, false⟩ = true ∧
    (⟨600, 1, 511, false, false, false⟩ : DueEntry).before ⟨511, 1, 511, false, false, false⟩ =
      false := by
  refine ⟨canonical_of ?_, ?_⟩ <;> decide +kernel

theorem witness_RemovalTakesTheBinsEntryOut :
    (queued 3).Canonical ∧ (∀ e ∈ (queued 3).due, e.bin ≠ 3) ∧ ∃ e ∈ (queued 3).due, e.bin = 2 := by
  refine ⟨canonical_of ?_, ?_⟩ <;> decide +kernel

/-- A part with `n` requests waiting and `k` responses. -/
def crowded (n k : Nat) : State :=
  { running with
    management := { running.management with queue := List.replicate n (ask 0x15 []) }
    composer := { running.composer with
      responses := List.replicate k ⟨1, 1, .ok, [.nothing]⟩ } }

/-- A state in which a change waits. -/
def gating (s : State) : State := { s with gates := moving.gates }

theorem witness_ArrivingRequestJoinsOrIsRefused :
    running.phase = .running ∧ [0, 0, 0, 0, 0].length < 6 ∧ 6 ≤ (bodyOf (ask 0x15 [])).length ∧
    (crowded 7 0).management.queue.length < 8 ∧ 8 ≤ (crowded 8 15).management.queue.length ∧
    (crowded 8 15).composer.responses.length < 16 ∧ (crowded 8 15).gates.change.isSome = false ∧
    16 ≤ (crowded 8 16).composer.responses.length ∧
    (gating (crowded 8 14)).gates.change.isSome = true ∧
    8 ≤ (gating (crowded 8 14)).management.queue.length ∧
    (gating (crowded 8 14)).composer.responses.length < 15 ∧
    15 ≤ (gating (crowded 8 15)).composer.responses.length := by
  decide +kernel

theorem witness_FailingRequestChangesNothing :
    (asked (ask 0x17 []) running).head = some (ask 0x17 []) ∧
    headCheck (asked (ask 0x17 []) running) (ask 0x17 []) = some .unknownOp ∧
    0x16 < (ask 0x17 []).op ∧ (ask 0 []).op < 0x01 ∧
    (asked (ask 0 []) running).head = some (ask 0 []) ∧
    headCheck (asked (ask 3 [64]) running) (ask 3 [64]) = some .badArgument := by decide +kernel

/-- The part with a credential 1 that may view row 9 and change nothing. -/
def watcher : State :=
  { town with management := { town.management with authority := ⟨[(1, ⟨0x00200, 0⟩)]⟩ } }

theorem witness_ChecksAreMadeInTheirOrder :
    (ask 3 []).operation = some .readPrefix ∧ (ask 3 []).lengthFits .readPrefix = false ∧
    (ask 3 [5]).lengthFits .readPrefix = true ∧
    running.inForce.settings.credentials ≤ 1 ∧ 0 < running.inForce.settings.credentials ∧
    isOwners .restart = true ∧ isChange .loadPrefix = true ∧
    16 ∈ rowsConcerned town (ask 1 [4, 0, 10, 0, 20]) .loadPrefix ∧
    (town.authorityOf 1).change.getLsbD 16 = false ∧ (town.authorityOf 1).view.getLsbD 16 = false ∧
    (∀ row ∈ rowsConcerned town (ask 1 [4, 0, 10, 0, 20]) .loadPrefix,
      (town.authorityOf 0).change.getLsbD row = true) ∧ Protection.all.covers 16 = true ∧
    ((ask 0x10 [9, 1]).operation = some .readCounters ∧
      (ask 0x10 [9, 1]).lengthFits .readCounters = true ∧ (ask 0x10 [9, 1]).arg8 1 % 2 = 1 ∧
      (∀ row ∈ rowsConcerned watcher (ask 0x10 [9, 1]) .readCounters,
        (watcher.authorityOf 1).view.getLsbD row = true) ∧
      (∃ row ∈ rowsConcerned watcher (ask 0x10 [9, 1]) .readCounters,
        (watcher.authorityOf 1).change.getLsbD row = false) ∧
      ∃ row ∈ rowsConcerned watcher (ask 0x10 [9, 1]) .readCounters,
        (Protection.districts 0x0200).covers row = true) := by
  decide +kernel

/-- The LOAD BIN of `moving`, with an estimate of district 6 in flight and nothing gated yet. -/
def blocked : State :=
  inFlight { bellFrame with bin := 1235 } (asked (ask 7 [0x04, 0xD2, 10, 3, 4, 0]) town)

theorem witness_ChangeWaitsForItsDistricts :
    blocked.Canonical ∧ blocked.head = some (ask 7 [0x04, 0xD2, 10, 3, 4, 0]) ∧
    headCheck blocked (ask 7 [0x04, 0xD2, 10, 3, 4, 0]) = none ∧
    (ask 7 [0x04, 0xD2, 10, 3, 4, 0]).operation = some .loadBin ∧
    6 ∈ blocked.gateSet (ask 7 [0x04, 0xD2, 10, 3, 4, 0]) ∧ blocked.gates.count 6 ≠ 0 := by
  refine ⟨canonical_of ?_, ?_⟩ <;> decide +kernel

theorem witness_PrefixEntryIsLoadedOrCleared :
    (asked (ask 1 [63, 0, 0, 0x20, 0]) town).Canonical ∧
    (asked (ask 1 [63, 0, 0, 0x20, 0]) town).gates.drained (List.range 16) = true ∧
    Passes (asked (ask 1 [63, 0, 0, 0x20, 0]) town) (ask 1 [63, 0, 0, 0x20, 0]) .loadPrefix ∧
    Passes (asked (ask 2 [63]) town) (ask 2 [63]) .clearPrefix := by
  refine ⟨canonical_of ?_, ?_, passes_of ?_, passes_of ?_⟩ <;> decide +kernel

theorem witness_DeviceEntryAndBacklinkChangeTogether :
    (asked (ask 4 [0x1E, 0xDB, 0x1F, 0xFF, 0]) town).Canonical ∧
    (asked (ask 4 [0x1E, 0xDB, 0x1F, 0xFF, 0]) town).gates.drained
      ((asked (ask 4 [0x1E, 0xDB, 0x1F, 0xFF, 0]) town).gateSet
        (ask 4 [0x1E, 0xDB, 0x1F, 0xFF, 0])) = true ∧
    Passes (asked (ask 4 [0x1E, 0xDB, 0x1F, 0xFF, 0]) town) (ask 4 [0x1E, 0xDB, 0x1F, 0xFF, 0])
      .loadDevice ∧
    Passes (asked (ask 5 [0x1F, 0xFF]) town) (ask 5 [0x1F, 0xFF]) .clearDevice := by
  refine ⟨canonical_of ?_, ?_, passes_of ?_, passes_of ?_⟩ <;> decide +kernel

/-- The three cases: bin 8,191 EMPTY, bin 1,234 with another profile, bin 1,234 with its own. -/
theorem witness_LoadBinAssignsResetsOrKeeps :
    (Passes (asked (ask 7 [0x1F, 0xFF, 9, 7, 1, 1]) town) (ask 7 [0x1F, 0xFF, 9, 7, 1, 1]) .loadBin ∧
      town.assigned 8191 = none) ∧
    (Passes (asked (ask 7 [0x04, 0xD2, 6, 7, 1, 0]) town) (ask 7 [0x04, 0xD2, 6, 7, 1, 0]) .loadBin ∧
      town.assigned 1234 = some bell ∧ bell.profile ≠ 7) ∧
    Passes (asked (ask 7 [0x04, 0xD2, 10, 3, 1, 0]) town) (ask 7 [0x04, 0xD2, 10, 3, 1, 0])
      .loadBin ∧
    (asked (ask 7 [0x04, 0xD2, 10, 3, 1, 0]) town).Canonical ∧ town.gates.drained [6, 10] = true := by
  refine ⟨⟨passes_of ?_, ?_⟩, ⟨passes_of ?_, ?_⟩, passes_of ?_, canonical_of ?_, ?_⟩ <;>
    decide +kernel

theorem witness_RetiredBinsBecomeEmpty :
    (asked (ask 8 [0x04, 0xD2, 1]) town).Canonical ∧
    Passes (asked (ask 8 [0x04, 0xD2, 1]) town) (ask 8 [0x04, 0xD2, 1]) .retireBin ∧
    Passes (asked (ask 9 [15, 0]) town) (ask 9 [15, 0]) .clearDistrict ∧
    Passes (asked (ask 9 [6, 1]) town) (ask 9 [6, 1]) .clearDistrict ∧
    town.gates.drained [6] = true := by
  refine ⟨canonical_of ?_, passes_of ?_, passes_of ?_, passes_of ?_, ?_⟩ <;> decide +kernel

/-- A profile not loaded before (31), one with its geometry kept (7), one with it changed (7). -/
theorem witness_LoadProfileResetsItsBinsOnNewGeometry :
    Passes (asked (ask 0x0B (profileArgs 31 0 1100 8)) town) (ask 0x0B (profileArgs 31 0 1100 8))
      .loadProfile ∧
    (Passes (asked (ask 0x0B (profileArgs 7 0 1100 3)) town) (ask 0x0B (profileArgs 7 0 1100 3))
      .loadProfile ∧
      (ask 0x0B (profileArgs 7 0 1100 3)).profile.any (sameGeometry litter) = true) ∧
    (Passes (asked (ask 0x0B (profileArgs 7 0 1000 3)) town) (ask 0x0B (profileArgs 7 0 1000 3))
      .loadProfile ∧
      (ask 0x0B (profileArgs 7 0 1000 3)).profile.any (sameGeometry litter) = false) ∧
    (asked (ask 0x0B (profileArgs 7 0 1000 3)) town).Canonical ∧
    town.gates.drained (List.range 16) = true := by
  refine ⟨passes_of ?_, ⟨passes_of ?_, ?_⟩, ⟨passes_of ?_, ?_⟩, canonical_of ?_, ?_⟩ <;>
    decide +kernel

theorem moving_pending : moving.PendingSound := by
  intro c h
  cases h
  exact ⟨_, _, rfl, by decide +kernel, by decide +kernel⟩

/-- A change whose districts have drained, and one with an estimate in flight at its limit. -/
theorem witness_PendingChangeIsAppliedOrTimesOut :
    moving.Canonical ∧ moving.phase = .running ∧
    moving.gates.change = some { districts := [6, 10], since := 1000 } ∧
    moving.management.queue = [ask 7 [0x04, 0xD2, 10, 3, 4, 0]] ∧ moving.PendingSound ∧
    (moving.gates.setCount 6 0).drained [6, 10] = true ∧
    1000 + moving.inForce.settings.changeWait * 1000 ≤ (at_ 6000 moving).time.localMs ∧
    moving.gates.drained [6, 10] = false := by
  refine ⟨canonical_of ?_, ?_, ?_, ?_, moving_pending, ?_⟩ <;> decide +kernel

/-- Valid and invalid entries, an EMPTY bin and an assigned one, the two forms of READ DEVICE. -/
theorem witness_ReadsReportTheTablesAsTheyStand :
    ([ask 3 [63], ask 3 [5], ask 6 [0, 0, 0, 0x1F, 0xFF], ask 6 [0, 0, 0, 0x1E, 0xDB],
        ask 6 [1, 5, 0, 0x1A, 0x2B], ask 6 [1, 64, 0, 0, 0], ask 0x0A [0x1F, 0xFF, 1],
        ask 0x0A [0x04, 0xD2, 0], ask 0x0C [7], ask 0x0D [16], ask 0x10 [16, 0], ask 0x13 [7],
        ask 0x15 []].all fun r =>
      decide ((asked r town).head = some r ∧ headCheck (asked r town) r = none)) = true ∧
    town.translation.prefixes.get 63 = none ∧ town.translation.prefixes.get 5 = some ⟨1200, 6900⟩ ∧
    town.device 8191 = none ∧ town.device 7899 = some ⟨1234, 3⟩ ∧ town.assigned 8191 = none ∧
    town.assigned 1234 = some bell := by
  decide +kernel

theorem witness_DueListHoldsTheSoonestEntries :
    Passes (asked (ask 0x0E [2, 0, 1, 1, 2, 4, 15]) rounds) (ask 0x0E [2, 0, 1, 1, 2, 4, 15])
      .requestDueList ∧
    Passes (asked (ask 0x0E [0, 1, 0, 0, 1, 9]) rounds) (ask 0x0E [0, 1, 0, 0, 1, 9])
      .requestDueList := by
  refine ⟨passes_of ?_, passes_of ?_⟩ <;> decide +kernel

theorem witness_SelectedMasksAndCountersChange :
    (asked (ask 0x0F [16, 0x80, 0, 2]) running).Canonical ∧
    Passes (asked (ask 0x0F [16, 0x80, 0, 2]) running) (ask 0x0F [16, 0x80, 0, 2]) .loadWatchMask ∧
    MaskMode.ofCode 2 = some .count ∧
    Passes (asked (ask 0x11 [0xFF, 0, 1]) running) (ask 0x11 [0xFF, 0, 1]) .resetCounters ∧
    Passes (asked (ask 0x10 [16, 1]) running) (ask 0x10 [16, 1]) .readCounters := by
  refine ⟨canonical_of ?_, passes_of ?_, ?_, passes_of ?_, passes_of ?_⟩ <;> decide +kernel

/-- A STORE CONFIG with protection DISTRICTS and a set of one district. -/
def storing : Request :=
  ask 0x14 (List.flatten [[1500, 300, 14, 5, 2000, 900, 600, 1].flatMap bytes16, [1, 0, 8]])

/-- A STORE CONFIG with protection NONE that carries a district set all the same. -/
def storingNone : Request :=
  ask 0x14 (List.flatten [[1500, 300, 14, 5, 2000, 20, 600, 4].flatMap bytes16, [0, 0, 8]])

theorem witness_AuthorityAndRecordAreReplaced :
    (asked (ask 0x12 [7, 1, 0xFF, 0xFF, 0, 0, 0]) running).Canonical ∧
    Passes (asked (ask 0x12 [7, 1, 0xFF, 0xFF, 0, 0, 0]) running)
      (ask 0x12 [7, 1, 0xFF, 0xFF, 0, 0, 0]) .loadAuthority ∧
    Passes (asked storing running) storing .storeConfig ∧ storing.arg8 16 = 1 ∧
    Passes (asked storingNone running) storingNone .storeConfig ∧ storingNone.arg8 16 = 0 ∧
    storingNone.set16 17 ≠ 0 := by
  refine ⟨canonical_of ?_, passes_of ?_, passes_of ?_, ?_, passes_of ?_, ?_⟩ <;> decide +kernel

theorem witness_RestartKeepsTablesAndDropsQueues :
    Passes (asked (ask 0x16 []) town) (ask 0x16 []) .restart := passes_of (by decide +kernel)

theorem witness_ArbiterTakesTheFirstEligibleCandidate :
    (running.composer.paused = false ∧ running.composer.sending = none) ∧
    ({ running with composer := { running.composer with paused := true } }).composer.paused = true :=
  by decide

theorem witness_GrantSendsItsFrame :
    (talking { Composer.reset with startPending := true } 8).choose = some .start ∧
    (talking { Composer.reset with responses := [⟨1, 3, .ok, [.nothing]⟩] } 8).choose =
      some .response ∧
    (talking { Composer.reset with pendingSummary := some .forced } 8).choose = some .forced ∧
    (talking { Composer.reset with pendingSummary := some .scheduled } 8).choose = some .notice ∧
    (talking { Composer.reset with pendingSummary := some .scheduled } 7).choose =
      some .scheduled ∧
    (talking { Composer.reset with debt := 1 } 7).choose = some .catchUp := by decide +kernel

theorem witness_PauseHoldsAndGoReleasesTheLink :
    running.phase = .running ∧ running.composer.paused = false ∧
    (at_ 2000 (talking .reset 1)).choose = some .notice ∧
    (talking .reset 1).inForce.settings.noticeHold = 2000 ∧
    (talking { Composer.reset with sending := some (.notice []) } 0).composer.sending ≠ none := by
  decide +kernel

theorem witness_SummaryTimerRaisesDebtUnderCongestion :
    (at_ 900000 (talking { Composer.reset with summaryDue := some 900000 } 63)).congested = false ∧
    (at_ 900000 (talking { Composer.reset with summaryDue := some 900000 } 64)).congested = true ∧
    900000 ≤ (at_ 900000 running).time.localMs := by decide +kernel

theorem witness_BeaconSyncsAndItsLossFreesTheClock :
    running.phase = .running ∧ (2#32).toNat - (running.time.localMs / 1000 : Nat) = 2 ∧
    0 + running.inForce.settings.beaconLoss ≤ (at_ 600000 running).time.localMs / 1000 := by
  decide +kernel

theorem witness_StoreWriteReplacesTheWholeRecord :
    running.phase ≠ .off ∧
    ({ running.store with waiting := some newRecord }).waiting = some newRecord ∧
    ({ running.store with writing := some ⟨newRecord, .copy3⟩ }).writing =
      some ⟨newRecord, .copy3⟩ := by decide +kernel

/-- A write of protection NONE over DISTRICTS, cut off at each point. -/
def writing (p : WritePoint) (c1 c2 : ProtectionCopy) : State :=
  { running with store := { running.store with
      copy1 := c1, copy2 := c2, copy3 := ⟨1, 0x1008⟩, writing := some ⟨newRecord, p⟩ } }

/-- READ CONFIG at each point of a write (R177): inside the block its check does not match, inside a
copy that changes the three differ. -/
theorem witness_ReadsReportTheTablesAsTheyStand_while_writing :
    ((asked (ask 0x15 []) (writing .block ⟨1, 0x1008⟩ ⟨1, 0x1008⟩)).head = some (ask 0x15 []) ∧
      headCheck (asked (ask 0x15 []) (writing .block ⟨1, 0x1008⟩ ⟨1, 0x1008⟩)) (ask 0x15 []) =
        none) ∧
    (writing .copy1 ⟨1, 0x1008⟩ ⟨1, 0x1008⟩).store.copy1 ≠ newRecord.protection ∧
    (writing .copy1 ⟨0, 0⟩ ⟨1, 0x1008⟩).store.copy1 = newRecord.protection := by decide +kernel

theorem test_config_while_the_block_is_written :
    (writing .block ⟨1, 0x1008⟩ ⟨1, 0x1008⟩).configReport.checkMatches = false := by
  simpa [State.configReport, State.heldNow] using
    (Store.cutOff_block (n := (writing .block ⟨1, 0x1008⟩ ⟨1, 0x1008⟩).drawn)
      (st := (writing .block ⟨1, 0x1008⟩ ⟨1, 0x1008⟩).store) rfl rfl).2.2.2

theorem witness_PowerLossCutsTheStoreWriteOff :
    (writing .block ⟨1, 0x1008⟩ ⟨1, 0x1008⟩).phase ≠ .off ∧
    running.store.check = running.store.settings.check ∧
    (writing .copy1 ⟨1, 0x1008⟩ ⟨1, 0x1008⟩).store.copy1 ≠ newRecord.protection ∧
    ((writing .copy2 ⟨0, 0⟩ ⟨1, 0x1008⟩).store.copy1 = newRecord.protection ∧
      (writing .copy2 ⟨0, 0⟩ ⟨1, 0x1008⟩).store.copy2 ≠ newRecord.protection) ∧
    (writing .copy3 ⟨0, 0⟩ ⟨0, 0⟩).store.copy2 = newRecord.protection ∧
    (writing .copy3 ⟨0, 0⟩ ⟨0, 0⟩).store.copy3 ≠ newRecord.protection := by decide +kernel

/-- Settings at the two ends of their 16 bits, each out of its range on one side at least. -/
def extremes (v : BitVec 16) : StoredSettings := ⟨v, v, v, v, v, v, v, v⟩

/-- The start of the reset state with another stored record. -/
def startingWith (block : StoredSettings) (c1 c2 : ProtectionCopy) : State :=
  { State.reset with store := { Store.factory with
      settings := block, check := block.check, copy1 := c1, copy2 := c2 } }

/-- A block whose check fails; one in its ranges; blocks out of them below and above; copies that
agree, that differ, and that agree on no valid protection. -/
theorem witness_StartPutsTheRecordInForce :
    (State.reset.phase = .starting .powerOn ∧ State.reset.resetLine = false ∧
      State.reset.store.waiting = none ∧ State.reset.store.writing = none) ∧
    ({ Store.factory with check := Store.factory.check + 1 }).check ≠
      crc16 Store.factory.settings.bytes ∧
    (Store.factory.check = crc16 Store.factory.settings.bytes ∧
      Store.factory.settings.values.InRange) ∧
    (∀ v ∈ [(0 : BitVec 16), 0xFFFF],
      (startingWith (extremes v) ⟨0, 0⟩ ⟨0, 0⟩).store.check = crc16 (extremes v).bytes ∧
        ¬ (extremes v).values.InRange) ∧
    (factoryCopy.valid = some .none ∧ (⟨1, 0⟩ : ProtectionCopy).valid = none ∧
      (startingWith newRecord.settings ⟨0, 0⟩ ⟨1, 0x1008⟩).store.copy1 ≠
        (startingWith newRecord.settings ⟨0, 0⟩ ⟨1, 0x1008⟩).store.copy2) := by
  refine ⟨by decide +kernel, by decide +kernel, ⟨by decide +kernel, ?_⟩, ?_, by decide +kernel⟩
  · constructor <;> decide +kernel
  · intro v hv
    refine ⟨rfl, fun h => ?_⟩
    rcases List.mem_pair.1 hv with rfl | rfl
    · exact absurd h.sweepInterval (by decide)
    · exact absurd h.sweepInterval (by decide)

theorem test_start_clamps_every_setting :
    ((Store.putInForce (startingWith (extremes 0) ⟨0, 0⟩ ⟨0, 0⟩).store .powerOn).settings,
      (Store.putInForce (startingWith (extremes 0xFFFF) ⟨0, 0⟩ ⟨0, 0⟩).store .powerOn).settings) =
    (⟨0, 60, 1, 1, 0, 60, 60, 1⟩, ⟨8000, 3600, 30, 60, 10000, 3600, 3600, 8⟩) := by decide +kernel

theorem witness_PowerAndResetLineBeginAStart :
    ({ town with phase := .off }).phase = .off ∧ town.phase ≠ .off ∧ town.resetLine = false := by
  decide +kernel

theorem witness_EveryStepKeepsTablesTimeAndSettings :
    (∃ t, step busy = .next t) ∧ busy.Canonical ∧ busy.time.Sound ∧
      busy.inForce.settings.InRange := by
  refine ⟨⟨_, rfl⟩, busy_canonical, ⟨fun _ => ⟨rfl, rfl⟩, fun h => by cases h⟩, ?_⟩
  constructor <;> decide

theorem busy_bounded : busy.Bounded := by constructor <;> decide +kernel

theorem witness_EveryStepKeepsQueuesBounded :
    busy.Bounded ∧ busy.KeysDistinct ∧ ∃ t, step busy = .next t :=
  ⟨busy_bounded, keys_of (by decide +kernel), _, rfl⟩

theorem witness_EveryStepKeepsInFlightCounts :
    busy.Canonical ∧ busy.InFlightSound ∧ ∃ t, step busy = .next t :=
  ⟨busy_canonical, busy_inFlight, _, rfl⟩

theorem busy_gates : busy.GatesSound := by
  intro d
  constructor
  · intro h; cases h
  · rintro ⟨c, hc, -⟩; cases hc

theorem busy_pending : busy.PendingSound := by
  intro c h; cases h

theorem busy_flights : busy.FlightsSound := by
  intro e he
  have : e = ⟨bellFrame, 6, none⟩ := by simpa [busy, inFlight] using he
  subst this
  exact ⟨bell, rfl, rfl⟩

theorem witness_EveryStepKeepsFlightsInTheirDistricts :
    busy.Canonical ∧ busy.InFlightSound ∧ busy.GatesSound ∧ busy.PendingSound ∧
      busy.FlightsSound ∧ ∃ t, step busy = .next t :=
  ⟨busy_canonical, busy_inFlight, busy_gates, busy_pending, busy_flights, _, rfl⟩

/-- A bin that is assigned in `busy` is bin 1,234. -/
theorem busy_bin {b : Nat} {a : Assigned} (h : busy.assigned b = some a) : b = 1234 ∧ a = bell := by
  rw [busy_assigned] at h
  split at h
  · next hb => cases h; exact ⟨hb.symm, rfl⟩
  · cases h

theorem busy_calibration : busy.CalibrationSound where
  offset := by intro b a h; obtain ⟨rfl, rfl⟩ := busy_bin h; rfl
  active := by intro b a h _; obtain ⟨rfl, rfl⟩ := busy_bin h; rfl
  learning := by intro b a h hl; obtain ⟨rfl, rfl⟩ := busy_bin h; cases hl
  range := by
    intro b v h
    rw [busy_learned] at h
    split at h
    · cases h; decide
    · cases h

theorem busy_due : busy.DueSound where
  bins := by decide +kernel
  ordered := by decide +kernel
  live := by
    intro e he
    have : e = ⟨1234, 6, 1133333, false, false, false⟩ := by simpa [busy, inFlight, town] using he
    subst this
    exact ⟨bell, rfl, by decide, rfl⟩

theorem witness_EveryStepKeepsCalibrationAndDueQueue :
    busy.Canonical ∧ busy.CalibrationSound ∧ busy.DueSound ∧ ∃ t, step busy = .next t :=
  ⟨busy_canonical, busy_calibration, busy_due, _, rfl⟩

theorem busy_device {e : Nat} {m : Mapping} (h : busy.device e = some m) :
    e = 7899 ∧ m = ⟨1234, 3⟩ := by
  by_cases he : 7899 = e
  · subst he; cases h; exact ⟨rfl, rfl⟩
  · simp [State.device, busy, inFlight, town, Table.get, findEntry, he] at h

theorem busy_mapped {b e : Nat} (h : (busy.record b).mapped = some e) : b = 1234 ∧ e = 7899 := by
  by_cases hb : 1234 = b
  · subst hb; cases h; exact ⟨rfl, rfl⟩
  · simp [State.record, busy, inFlight, town, Table.read, Table.get, findEntry, hb,
      BinRecord.vacant] at h

theorem busy_translation : busy.TranslationSound where
  segments := by
    intro p seg h
    by_cases hp : 5 = p
    · subst hp; cases h; decide
    · simp [busy, inFlight, town, Table.get, findEntry, hp] at h
  entries := by intro e m h; obtain ⟨rfl, rfl⟩ := busy_device h; decide
  named := by intro e m h; obtain ⟨rfl, rfl⟩ := busy_device h; rfl
  mapped := by intro b e h; obtain ⟨rfl, rfl⟩ := busy_mapped h; exact ⟨_, rfl, rfl⟩

theorem busy_profiles : busy.ProfilesSound where
  fields := by
    intro n p h
    by_cases h3 : 3 = n
    · subst h3; cases h; exact ⟨by decide +kernel, fun _ => by decide⟩
    · by_cases h7 : 7 = n
      · subst h7; cases h; exact ⟨by decide +kernel, fun hk => by cases hk⟩
      · simp [busy, inFlight, town, Table.get, findEntry, h3, h7] at h
  named := by intro b a h; obtain ⟨rfl, rfl⟩ := busy_bin h; rfl
  districts := by intro b a h; obtain ⟨rfl, rfl⟩ := busy_bin h; decide

theorem witness_EveryStepKeepsBacklinksAndProfiles :
    busy.Canonical ∧ busy.PendingSound ∧ busy.TranslationSound ∧ busy.ProfilesSound ∧
      ∃ t, step busy = .next t :=
  ⟨busy_canonical, busy_pending, busy_translation, busy_profiles, _, rfl⟩

theorem witness_StateChangesOnlyByItsOwnCommands :
    busy.Canonical ∧ altersTables .silenceSweep = false ∧ ∃ t, exec .silenceSweep busy = .next t :=
  ⟨busy_canonical, rfl, _, rfl⟩

theorem witness_PausedLinkGrantsNothing :
    (talking { Composer.reset with paused := true, startPending := true } 128).composer.paused =
      true ∧
    ∃ t, exec .startGrant (talking { Composer.reset with
      paused := true, startPending := true } 128) = .next t := ⟨rfl, _, rfl⟩

end Sys2Proof.Tests
end

section
/-! PROOFS. The bounds of the queues and the distinct merge keys (R5, R12, R70, R102, R113, R136,
R151, R154, R156, R160), carried through the operations on the tables and the due queue. -/

namespace Sys2Proof.Machine

variable {s t u : State}

/-- Every queue within its size and the merge keys distinct, as one property: the invariant that
every operation is shown to keep. -/
structure State.QueuesSound (s : State) : Prop where
  bounds : s.Bounded
  keys : s.KeysDistinct

/-! ### Steps that reach the tables and the collection-due queue alone -/

/-- From `s` to `t` only the translation tables, the bins, the profiles and the collection-due queue
differ, and that queue stays within its size. -/
structure State.TablesStep (s t : State) : Prop where
  frame : t = { s with translation := t.translation, bins := t.bins, profiles := t.profiles,
                       due := t.due }
  due : s.due.length ≤ dueSize → t.due.length ≤ dueSize

theorem State.TablesStep.refl (s : State) : s.TablesStep s := ⟨rfl, id⟩

theorem State.TablesStep.trans (h : s.TablesStep t) (h' : t.TablesStep u) : s.TablesStep u :=
  ⟨by rw [h'.frame, h.frame], h'.due ∘ h.due⟩

theorem State.TablesStep.foldl {α : Type} {f : State → α → State}
    (step : ∀ (s : State) (a : α), s.TablesStep (f s a)) (l : List α) (s : State) :
    s.TablesStep (l.foldl f s) := by
  induction l generalizing s with
  | nil => exact .refl s
  | cons a rest ih => exact (step s a).trans (ih (f s a))

theorem State.QueuesSound.tablesStep (h : s.QueuesSound) (ht : s.TablesStep t) :
    t.QueuesSound := by
  rw [ht.frame]
  exact ⟨{ h.bounds with due := ht.due h.bounds.due }, h.keys⟩

theorem length_dropDue_le (b : Nat) (q : List DueEntry) : (dropDue b q).length ≤ q.length :=
  List.length_filter_le ..

theorem State.TablesStep.setRecord (b : Nat) (r : BinRecord) : s.TablesStep (s.setRecord b r) :=
  ⟨rfl, id⟩

theorem State.TablesStep.setLearned (b : Nat) (c : Option Int) :
    s.TablesStep (s.setLearned b c) := ⟨rfl, id⟩

theorem State.TablesStep.setDevice (e : Nat) (m : Option Mapping) :
    s.TablesStep (s.setDevice e m) := ⟨rfl, id⟩

theorem State.TablesStep.handRemoval (b : Nat) : s.TablesStep (s.handRemoval b) :=
  ⟨rfl, (length_dropDue_le b s.due).trans⟩

theorem State.TablesStep.handSilent (b : Nat) (f : Bool) : s.TablesStep (s.handSilent b f) :=
  ⟨rfl, by simp⟩

theorem State.TablesStep.handDistrict (b d : Nat) : s.TablesStep (s.handDistrict b d) :=
  ⟨rfl, by simp⟩

theorem State.TablesStep.handPrediction (e : DueEntry) : s.TablesStep (s.handPrediction e) := by
  refine ⟨?_, fun h => ?_⟩
  · rw [State.handPrediction_frame e s]
  have hd := (length_dropDue_le e.bin s.due).trans h
  rcases State.handPrediction_cases e s with
    ⟨hl, hp⟩ | ⟨_, -, hl, -, hp⟩ | ⟨_, -, -, -, hp⟩ <;> rw [hp]
  · rw [State.placeDue_due, length_insertDue]; exact hl
  · rw [State.placeDue_due, length_insertDue, List.length_dropLast]
    simp only [dueSize] at *; omega
  · exact hd

theorem State.TablesStep.handDue (b d : Nat) (x : DueUpdate) : s.TablesStep (s.handDue b d x) := by
  cases x with
  | nothing => exact .refl s
  | removal => exact .handRemoval b
  | prediction due isOver coarse => exact .handPrediction _

/-! ### The changes applied to the tables -/

theorem applyLoadPrefix_tablesStep (r : Request) (s : State) :
    s.TablesStep (applyLoadPrefix r s).1 := ⟨rfl, id⟩

theorem applyClearPrefix_tablesStep (r : Request) (s : State) :
    s.TablesStep (applyClearPrefix r s).1 := ⟨rfl, id⟩

theorem applyLoadDevice_tablesStep (r : Request) (s : State) :
    s.TablesStep (applyLoadDevice r s).1 := by
  unfold applyLoadDevice
  dsimp only
  cases s.otherBin (r.arg16 0) (r.arg16 2) with
  | none => exact (State.TablesStep.setDevice _ _).trans (.setRecord _ _)
  | some old =>
    exact ((State.TablesStep.setRecord _ _).trans (.setDevice _ _)).trans (.setRecord _ _)

theorem applyClearDevice_tablesStep (r : Request) (s : State) :
    s.TablesStep (applyClearDevice r s).1 := by
  unfold applyClearDevice
  dsimp only
  cases s.device (r.arg16 0) with
  | none => exact .setDevice _ _
  | some m => exact (State.TablesStep.setRecord _ _).trans (.setDevice _ _)

/-- The clearing of a calibration entry where a change asks for it (R47, R48, R50). -/
theorem State.TablesStep.unlearn (b : Nat) (f : Bool) :
    s.TablesStep (if f then s.setLearned b none else s) := by
  cases f with
  | false => exact .refl s
  | true => exact .setLearned b none

theorem State.TablesStep.loadReset (b d p g : Nat) (relearn : Bool) (a : Assigned) :
    s.TablesStep (s.loadReset b d p g relearn a) :=
  ((State.TablesStep.unlearn b relearn).trans (.setRecord _ _)).trans (.handRemoval b)

theorem State.TablesStep.loadKeep (b d g : Nat) (a : Assigned) :
    s.TablesStep (s.loadKeep b d g a) := by
  unfold State.loadKeep
  split
  · exact .setRecord _ _
  · exact (State.TablesStep.setRecord _ _).trans (.handDistrict b d)

theorem applyLoadBin_tablesStep (r : Request) (s : State) : s.TablesStep (applyLoadBin r s).1 := by
  unfold applyLoadBin
  dsimp only
  cases s.assigned (r.arg16 0) with
  | none => exact (State.TablesStep.unlearn _ (r.option 5)).trans (.setRecord _ _)
  | some a =>
    dsimp only
    split
    · exact .loadReset _ _ _ _ _ a
    · exact .loadKeep _ _ _ a

theorem State.TablesStep.retire (b : Nat) (f : Bool) : s.TablesStep (s.retire b f) := by
  have cleared : ∀ v : State, s.TablesStep v → s.TablesStep (State.setRecord b .vacant
      { (if f then v.setLearned b none else v) with
        due := dropDue b (if f then v.setLearned b none else v).due }) := fun v hv =>
    (hv.trans (.unlearn b f)).trans ⟨rfl, (length_dropDue_le b _).trans⟩
  unfold State.retire
  cases (s.record b).mapped with
  | none => exact cleared s (.refl s)
  | some e => exact cleared _ (.setDevice e none)

theorem applyRetireBin_tablesStep (r : Request) (s : State) :
    s.TablesStep (applyRetireBin r s).1 := .retire _ _

theorem applyClearDistrict_tablesStep (r : Request) (s : State) :
    s.TablesStep (applyClearDistrict r s).1 := .foldl (fun _ b => .retire b _) _ s

theorem State.TablesStep.resetBin (b : Nat) : s.TablesStep (s.resetBin b) := by
  unfold State.resetBin
  cases s.assigned b with
  | none => exact .refl s
  | some a => exact (State.TablesStep.setRecord _ _).trans (.handRemoval b)

theorem applyLoadProfile_tablesStep (r : Request) (s : State) :
    s.TablesStep (applyLoadProfile r s).1 := by
  unfold applyLoadProfile
  cases r.profile with
  | none => exact .refl s
  | some p =>
    have loaded : s.TablesStep (s.setProfile (r.arg8 0) (some p.held)) := ⟨rfl, id⟩
    exact loaded.trans (.foldl (fun _ b => .resetBin b) _ _)

/-- A change, whichever it is, reaches the tables and the collection-due queue alone. -/
theorem applyChange_tablesStep (r : Request) (s : State) : s.TablesStep (applyChange r s).1 := by
  unfold applyChange
  split
  · exact applyLoadPrefix_tablesStep r s
  · exact applyClearPrefix_tablesStep r s
  · exact applyLoadDevice_tablesStep r s
  · exact applyClearDevice_tablesStep r s
  · exact applyLoadBin_tablesStep r s
  · exact applyRetireBin_tablesStep r s
  · exact applyClearDistrict_tablesStep r s
  · exact applyLoadProfile_tablesStep r s
  · exact .refl s

end Sys2Proof.Machine
end

section
/-! PROOFS. The merge window, releases and admission places (R7 to R15): what an entry's key decides
in a window of distinct keys, and what a release leaves unchanged. -/

namespace Sys2Proof.Machine

variable {s : State}

/-! ### Keys (R5) -/

theorem MergeEntry.hasKey_iff {sensor : SensorId} {count : FrameCount} {e : MergeEntry} :
    e.hasKey sensor count = true ↔ e.sensor = sensor ∧ e.count = count := by
  simp [MergeEntry.hasKey]

@[simp] theorem MergeEntry.hasKey_self (e : MergeEntry) : e.hasKey e.sensor e.count = true :=
  MergeEntry.hasKey_iff.2 ⟨rfl, rfl⟩

theorem MergeEntry.hasKey_comm (e f : MergeEntry) :
    e.hasKey f.sensor f.count = f.hasKey e.sensor e.count := by
  simp only [MergeEntry.hasKey, BEq.comm]

/-- A change of entries that keeps sensor and count keeps the keys distinct. -/
theorem keys_map {w : List MergeEntry} {f : MergeEntry → MergeEntry}
    (hs : ∀ e, (f e).sensor = e.sensor) (hc : ∀ e, (f e).count = e.count)
    (h : w.Pairwise fun e g => e.hasKey g.sensor g.count = false) :
    (w.map f).Pairwise fun e g => e.hasKey g.sensor g.count = false := by
  rw [List.pairwise_map]
  exact h.imp fun {a b} hab => by simpa only [MergeEntry.hasKey, hs, hc] using hab

/-- In a window of distinct keys no entry beside `e` has the key of `e`. -/
theorem hasKey_others {before after : List MergeEntry} {e : MergeEntry}
    (h : (before ++ e :: after).Pairwise fun x y => x.hasKey y.sensor y.count = false) :
    (∀ x ∈ before, x.hasKey e.sensor e.count = false) ∧
      ∀ x ∈ after, x.hasKey e.sensor e.count = false := by
  obtain ⟨-, he, hb⟩ := List.pairwise_append.1 h
  refine ⟨fun x hx => hb x hx e (List.mem_cons_self ..), fun x hx => ?_⟩
  rw [MergeEntry.hasKey_comm]
  exact (List.pairwise_cons.1 he).1 x hx

/-- Taking the entry of a key out of a window in which it stands once. -/
theorem filter_key {before after : List MergeEntry} {e : MergeEntry} {sensor : SensorId}
    {count : FrameCount} (he : e.hasKey sensor count = true)
    (hb : ∀ x ∈ before, x.hasKey sensor count = false)
    (ha : ∀ x ∈ after, x.hasKey sensor count = false) :
    (before ++ e :: after).filter (fun x => !x.hasKey sensor count) = before ++ after := by
  simp only [List.filter_append, List.filter_cons, he, Bool.not_true, Bool.false_eq_true, if_false]
  rw [List.filter_eq_self.2 fun x hx => by simp [hb x hx],
    List.filter_eq_self.2 fun x hx => by simp [ha x hx]]

/-- Changing the entry of a key in a window in which it stands once. -/
theorem map_key {before after : List MergeEntry} {e : MergeEntry} {sensor : SensorId}
    {count : FrameCount} (f : MergeEntry → MergeEntry) (he : e.hasKey sensor count = true)
    (hb : ∀ x ∈ before, x.hasKey sensor count = false)
    (ha : ∀ x ∈ after, x.hasKey sensor count = false) :
    (before ++ e :: after).map (fun x => if x.hasKey sensor count then f x else x) =
      before ++ f e :: after := by
  simp only [List.map_append, List.map_cons, he, if_true]
  rw [List.map_congr_left (g := id) fun x hx => by simp [hb x hx],
    List.map_congr_left (l := after) (g := id) fun x hx => by simp [ha x hx]]
  simp only [List.map_id]

theorem MergeEntry.merge_sensor (q : Nat) (p : List Byte) (e : MergeEntry) :
    (e.merge q p).sensor = e.sensor := by unfold MergeEntry.merge; split <;> rfl

theorem MergeEntry.merge_count (q : Nat) (p : List Byte) (e : MergeEntry) :
    (e.merge q p).count = e.count := by unfold MergeEntry.merge; split <;> rfl

/-! ### Receiving (R9, R10) -/

theorem State.canReceive_iff :
    s.canReceive = true ↔ s.intake.admission.length < 16 ∧ s.openDeferred = none := by
  simp only [State.canReceive, State.placeFree, Bool.and_eq_true, decide_eq_true_eq,
    Option.isNone_iff_eq_none]
  rfl

theorem State.canReceive_eq_false :
    s.canReceive = false ↔ 16 ≤ s.intake.admission.length ∨ s.openDeferred.isSome = true := by
  rw [← Bool.not_eq_true, State.canReceive_iff, ← Option.not_isSome_iff_eq_none]
  rw [not_and_or, not_lt, not_not]

theorem State.placeFree_of_canReceive (h : s.canReceive = true) : s.placeFree = true := by
  simp only [State.canReceive, Bool.and_eq_true] at h
  exact h.1

/-! ### Handing on (R11, R23, R101) -/

/-- Everything handing an entry on can do: a fault's end, or the gate test of a translated frame. -/
theorem State.handOn_cases (e : MergeEntry) (s : State) :
    (∃ code row bin, s.translate (sensorOf e.payload) = .fault code row bin ∧
      s.handOn e = s.endFrame .unmapped row bin e.payload code) ∨
    (∃ bin district, s.translate (sensorOf e.payload) = .found bin district ∧
      s.handOn e =
        s.gateTest { payload := e.payload, bin := bin, arrival := e.openedAt / 1000 }
          district) := by
  unfold State.handOn
  cases s.translate (sensorOf e.payload) with
  | fault code row bin => exact .inl ⟨code, row, bin, rfl, rfl⟩
  | found bin district => exact .inr ⟨bin, district, rfl, rfl⟩

theorem State.handOn_of_fault {e : MergeEntry} {code : OutcomeCode} {row : Nat} {bin : Option Nat}
    (h : s.translate (sensorOf e.payload) = .fault code row bin) :
    s.handOn e = s.endFrame .unmapped row bin e.payload code := by
  rcases State.handOn_cases e s with ⟨_, _, _, ht, ho⟩ | ⟨_, _, ht, ho⟩ <;> cases ht.symm.trans h
  exact ho

theorem State.handOn_of_found {e : MergeEntry} {bin d : Nat}
    (h : s.translate (sensorOf e.payload) = .found bin d) :
    s.handOn e =
      s.gateTest { payload := e.payload, bin := bin, arrival := e.openedAt / 1000 } d := by
  rcases State.handOn_cases e s with ⟨_, _, _, ht, ho⟩ | ⟨_, _, ht, ho⟩ <;> cases ht.symm.trans h
  exact ho

/-- A gate test reaches the admission queue, the deferred queue, the tallies and the watch unit
alone. -/
theorem State.gateTest_frame (f : Frame) (d : Nat) (s : State) :
    s.gateTest f d = { s with
      intake := { s.intake with admission := (s.gateTest f d).intake.admission }
      gates := { s.gates with deferred := (s.gateTest f d).gates.deferred
                              tallies := (s.gateTest f d).gates.tallies }
      watch := (s.gateTest f d).watch } := by
  rcases State.gateTest_cases f d s with ⟨-, h⟩ | ⟨-, -, h⟩ | ⟨-, -, h⟩ <;> rw [h] <;> rfl

/-- Handing an entry on reaches the admission queue, the deferred queue, the tallies and the watch
unit alone. -/
theorem State.handOn_frame (e : MergeEntry) (s : State) :
    s.handOn e = { s with
      intake := { s.intake with admission := (s.handOn e).intake.admission }
      gates := { s.gates with deferred := (s.handOn e).gates.deferred
                              tallies := (s.handOn e).gates.tallies }
      watch := (s.handOn e).watch } := by
  rcases State.handOn_cases e s with ⟨_, _, _, -, h⟩ | ⟨_, _, -, h⟩ <;> rw [h]
  · rfl
  · exact State.gateTest_frame _ _ s

/-- At most one frame joins the admission queue, at its end. -/
theorem State.handOn_admission (e : MergeEntry) (s : State) :
    (s.handOn e).intake.admission = s.intake.admission ∨
      ∃ f, (s.handOn e).intake.admission = s.intake.admission ++ [f] := by
  rcases State.handOn_cases e s with ⟨_, _, _, -, h⟩ | ⟨bin, d, -, h⟩ <;> rw [h]
  · exact .inl rfl
  · rcases State.gateTest_cases ⟨e.payload, bin, e.openedAt / 1000⟩ d s with
      ⟨-, h⟩ | ⟨-, -, h⟩ | ⟨-, -, h⟩ <;> rw [h]
    · exact .inr ⟨_, rfl⟩
    · exact .inl rfl
    · exact .inl rfl

/-- At most one frame joins the deferred queue, at its end and within its size. -/
theorem State.handOn_deferred (e : MergeEntry) (s : State) :
    (s.handOn e).gates.deferred = s.gates.deferred ∨
      s.gates.deferred.length < deferredSize ∧
        ∃ x, (s.handOn e).gates.deferred = s.gates.deferred ++ [x] := by
  rcases State.handOn_cases e s with ⟨_, _, _, -, h⟩ | ⟨bin, d, -, h⟩ <;> rw [h]
  · exact .inl rfl
  · rcases State.gateTest_cases ⟨e.payload, bin, e.openedAt / 1000⟩ d s with
      ⟨-, h⟩ | ⟨-, hl, h⟩ | ⟨-, -, h⟩ <;> rw [h]
    · exact .inl rfl
    · exact .inr ⟨hl, _, rfl⟩
    · exact .inl rfl

/-- Handing an entry on raises at most one event. -/
theorem State.handOn_watch (e : MergeEntry) (s : State) :
    ∃ es, (s.handOn e).watch = s.watch.takeGroup s.time es := by
  rcases State.handOn_cases e s with ⟨_, _, _, -, h⟩ | ⟨bin, d, -, h⟩ <;> rw [h]
  · exact ⟨_, rfl⟩
  · rcases State.gateTest_cases ⟨e.payload, bin, e.openedAt / 1000⟩ d s with
      ⟨-, h⟩ | ⟨-, -, h⟩ | ⟨-, -, h⟩ <;> rw [h]
    · exact ⟨[], rfl⟩
    · exact ⟨_, rfl⟩
    · exact ⟨_, rfl⟩

/-- The chain taken last and the merge window, written together. -/
def State.setPort (chain : Nat) (w : List MergeEntry) (s : State) : State :=
  { s with intake := { s.intake with lastChain := chain, window := w } }

theorem State.setWindow_eq_setPort (w : List MergeEntry) (s : State) :
    s.setWindow w = s.setPort s.intake.lastChain w := rfl

theorem State.translate_setPort (chain : Nat) (w : List MergeEntry) (id : SensorId) :
    (s.setPort chain w).translate id = s.translate id := rfl

theorem State.gateTest_setPort (f : Frame) (d chain : Nat) (w : List MergeEntry) (s : State) :
    (s.setPort chain w).gateTest f d = (s.gateTest f d).setPort chain w := by
  have hg : (s.setPort chain w).gates = s.gates := rfl
  unfold State.gateTest
  rw [hg]
  split
  · rfl
  · split <;> rfl

/-- Handing on reads neither the merge window nor the chain taken last. -/
theorem State.handOn_setPort (e : MergeEntry) (chain : Nat) (w : List MergeEntry) (s : State) :
    (s.setPort chain w).handOn e = (s.handOn e).setPort chain w := by
  rcases State.handOn_cases e s with ⟨_, _, _, ht, ho⟩ | ⟨_, _, ht, ho⟩ <;> rw [ho]
  · rw [State.handOn_of_fault ((State.translate_setPort chain w _).trans ht)]
    rfl
  · rw [State.handOn_of_found ((State.translate_setPort chain w _).trans ht)]
    exact State.gateTest_setPort ..

theorem State.handOn_lastChain (e : MergeEntry) (s : State) :
    (s.handOn e).intake.lastChain = s.intake.lastChain := by
  rcases State.handOn_cases e s with ⟨_, _, _, -, ho⟩ | ⟨_, _, -, ho⟩ <;> rw [ho]
  · rfl
  · rw [State.gateTest_frame]

theorem State.handOn_window (e : MergeEntry) (s : State) :
    (s.handOn e).intake.window = s.intake.window := by
  rcases State.handOn_cases e s with ⟨_, _, _, -, ho⟩ | ⟨_, _, -, ho⟩ <;> rw [ho]
  · rfl
  · rw [State.gateTest_frame]

theorem State.handOn_setWindow (e : MergeEntry) (w : List MergeEntry) (s : State) :
    (s.setWindow w).handOn e = (s.handOn e).setWindow w := by
  rw [State.setWindow_eq_setPort, State.handOn_setPort, State.setWindow_eq_setPort,
    State.handOn_lastChain]

/-- A release hands the entry on and takes it out of the window (R11). -/
theorem State.release_eq (e : MergeEntry) (s : State) :
    s.release e = (s.handOn e).setWindow
      (s.intake.window.filter fun x => !x.hasKey e.sensor e.count) :=
  State.handOn_setWindow ..

/-- A release shortens the window by the entry it takes out. -/
theorem State.release_window_length {e : MergeEntry} (he : e ∈ s.intake.window) :
    (s.release e).intake.window.length < s.intake.window.length := by
  rw [State.release_eq]
  exact List.length_filter_lt_length_iff_exists.2 ⟨e, he, by simp⟩

end Sys2Proof.Machine
end

section
/-! PROOFS. Every operation the commands share keeps the queues bounded and the merge keys
distinct. -/

namespace Sys2Proof.Machine

variable {s t : State}

/-! ### What gate and tally writes leave -/

theorem Gates.setStates_deferred (ds : List Nat) (x : GateState) (g : Gates) :
    (g.setStates ds x).deferred = g.deferred := by
  unfold Gates.setStates
  induction ds generalizing g with
  | nil => rfl
  | cons d rest ih => exact ih (g.setState x d)

theorem Gates.foldl_tallyUp (row : Nat) (l : List FlagDetail) (g : Gates) :
    l.foldl (fun g d => g.tallyUp row d.place) g =
      { g with tallies := (l.foldl (fun g d => g.tallyUp row d.place) g).tallies } := by
  induction l generalizing g with
  | nil => rfl
  | cons d rest ih => exact ih (g.tallyUp row d.place)

namespace State.QueuesSound

/-! ### Outcomes, events and slots -/

theorem tallyOutcome (h : s.QueuesSound) (row : Nat) (o : OutcomeCode) :
    (s.tallyOutcome row o).QueuesSound := ⟨{ h.bounds with }, h.keys⟩

theorem tallyCompletion (h : s.QueuesSound) (row : Nat) (l : List FlagDetail) :
    (s.tallyCompletion row l).QueuesSound := by
  unfold State.tallyCompletion
  split
  · exact h.tallyOutcome row _
  · rw [Gates.foldl_tallyUp]
    exact ⟨{ h.bounds with }, h.keys⟩

theorem raiseGroup (h : s.QueuesSound) (es : List Event) : (s.raiseGroup es).QueuesSound :=
  ⟨{ h.bounds with notices := Watch.takeGroup_notices_length _ _ es h.bounds.notices }, h.keys⟩

theorem raise (h : s.QueuesSound) (e : Event) : (s.raise e).QueuesSound := h.raiseGroup [e]

theorem endFrame (h : s.QueuesSound) (c : WatchClass) (row : Nat) (bin : Option Nat)
    (p : List Byte) (o : OutcomeCode) : (s.endFrame c row bin p o).QueuesSound :=
  (h.tallyOutcome row o).raise _

theorem vacate (h : s.QueuesSound) (e : Estimate) : (s.vacate e).QueuesSound :=
  ⟨{ h.bounds with slots := (List.length_filter_le ..).trans h.bounds.slots }, h.keys⟩

theorem occupy (h : s.QueuesSound) (hl : s.slots.length < slotCount) (f : Frame) (d : Nat)
    (gap : Option Nat) : (s.occupy f d gap).QueuesSound :=
  ⟨{ h.bounds with slots := by simpa using hl }, h.keys⟩

theorem takeAdmitted (h : s.QueuesSound) : s.takeAdmitted.QueuesSound :=
  ⟨{ h.bounds with admission := List.eraseP_sublist.length_le.trans h.bounds.admission }, h.keys⟩

/-! ### The merge window and admission -/

theorem setWindow (h : s.QueuesSound) {w : List MergeEntry} (hl : w.length ≤ windowSize)
    (hk : w.Pairwise fun e g => e.hasKey g.sensor g.count = false) :
    (s.setWindow w).QueuesSound := ⟨{ h.bounds with window := hl }, hk⟩

/-- The deferred queue replaced by one within its size. -/
theorem deferred (h : s.QueuesSound) {q : List DeferredFrame} (hl : q.length ≤ deferredSize) :
    State.QueuesSound { s with gates := { s.gates with deferred := q } } :=
  ⟨{ h.bounds with deferred := hl }, h.keys⟩

theorem joinAdmission (h : s.QueuesSound) (hp : s.placeFree = true) (f : Frame) :
    (s.joinAdmission f).QueuesSound := by
  have hl : s.intake.admission.length < admissionSize := by simpa [State.placeFree] using hp
  exact ⟨{ h.bounds with admission := by simpa using hl }, h.keys⟩

theorem gateTest (h : s.QueuesSound) (hp : s.placeFree = true) (f : Frame) (d : Nat) :
    (s.gateTest f d).QueuesSound := by
  rcases State.gateTest_cases f d s with ⟨-, hg⟩ | ⟨-, hl, hg⟩ | ⟨-, -, hg⟩ <;> rw [hg]
  · exact h.joinAdmission hp f
  · exact (h.deferred (by simpa using hl)).endFrame _ _ _ _ _
  · exact h.endFrame _ _ _ _ _

theorem handOn (h : s.QueuesSound) (hp : s.placeFree = true) (e : MergeEntry) :
    (s.handOn e).QueuesSound := by
  rcases State.handOn_cases e s with ⟨_, _, _, -, ho⟩ | ⟨_, _, -, ho⟩ <;> rw [ho]
  · exact h.endFrame _ _ _ _ _
  · exact h.gateTest hp _ _

theorem release (h : s.QueuesSound) (hp : s.placeFree = true) (e : MergeEntry) :
    (s.release e).QueuesSound := by
  rw [State.release_eq]
  exact (h.handOn hp e).setWindow ((List.length_filter_le ..).trans h.bounds.window)
    (h.keys.filter _)

theorem expire (h : s.QueuesSound) (e : MergeEntry) : (s.expire e).QueuesSound := by
  unfold State.expire
  split
  · next hr => exact h.release (State.placeFree_of_canReceive hr) e
  · refine h.setWindow (by simpa using h.bounds.window) (keys_map ?_ ?_ h.keys) <;>
      intro x <;> split <;> rfl

theorem openEntry (h : s.QueuesSound) (hl : s.intake.window.length < windowSize) (q : Nat)
    {p : List Byte} (hn : ∀ x ∈ s.intake.window, x.hasKey (sensorOf p) (countOf p) = false) :
    (s.openEntry q p).QueuesSound := by
  have opened : (s.setWindow (s.intake.window ++ [s.newEntry q p])).QueuesSound := by
    refine h.setWindow (by simpa using hl) (List.pairwise_append.2 ⟨h.keys, ?_, ?_⟩)
    · exact List.pairwise_singleton ..
    · intro x hx y hy
      rw [List.mem_singleton.1 hy]
      exact hn x hx
  unfold State.openEntry
  dsimp only
  split
  · exact opened.expire _
  · exact opened

theorem openFull (h : s.QueuesSound) (q : Nat) {p : List Byte}
    (hn : ∀ x ∈ s.intake.window, x.hasKey (sensorOf p) (countOf p) = false) :
    (s.openFull q p).QueuesSound := by
  unfold State.openFull
  split
  · next hw => exact h.openEntry (by rw [hw]; decide) q hn
  · next oldest rest hw =>
    split
    · next hr =>
      have hm : oldest ∈ s.intake.window := by rw [hw]; exact List.mem_cons_self ..
      refine (h.release (State.placeFree_of_canReceive hr) oldest).openEntry
        ((State.release_window_length hm).trans_le h.bounds.window) q fun x hx => hn x ?_
      rw [State.release_eq] at hx
      exact List.mem_of_mem_filter hx
    · exact h.endFrame _ _ _ _ _

theorem intoWindow (h : s.QueuesSound) (q : Nat) (p : List Byte) :
    (s.intoWindow q p).QueuesSound := by
  unfold State.intoWindow
  split
  · refine h.setWindow (by simpa [mergeInto] using h.bounds.window) (keys_map ?_ ?_ h.keys) <;>
      intro x <;> split
    · exact x.merge_sensor q p
    · rfl
    · exact x.merge_count q p
    · rfl
  · next hk =>
    have hn : ∀ x ∈ s.intake.window, x.hasKey (sensorOf p) (countOf p) = false := by
      simpa using hk
    split
    · next hl => exact h.openEntry hl q hn
    · exact h.openFull q hn

theorem takeFrame (h : s.QueuesSound) (chain : Nat) (f : ChainFrame) :
    (s.takeFrame chain f).QueuesSound := by
  have taken : State.QueuesSound { s with intake := { s.intake with lastChain := chain } } :=
    ⟨{ h.bounds with }, h.keys⟩
  unfold State.takeFrame
  dsimp only
  split
  · exact (taken.tallyOutcome _ _).raise _
  · exact taken.intoWindow _ _

theorem moveDeferred (h : s.QueuesSound) (hp : s.placeFree = true) (d : DeferredFrame) :
    (s.moveDeferred d).QueuesSound :=
  (h.deferred (List.eraseP_sublist.length_le.trans h.bounds.deferred)).joinAdmission hp _

theorem grantPlace (h : s.QueuesSound) (hg : s.grantPlace = some t) : t.QueuesSound := by
  obtain ⟨hp, ⟨d, -, rfl⟩ | ⟨-, e, -, rfl⟩⟩ := State.grantPlace_cases hg
  · exact h.moveDeferred hp d
  · exact h.release hp e

theorem givePlaces (h : s.QueuesSound) : s.givePlaces.QueuesSound :=
  State.givePlaces_keeps (P := State.QueuesSound) (fun _ _ hg hs => hs.grantPlace hg) h

/-! ### Estimates and the sweep -/

theorem startFrame (h : s.QueuesSound) (hl : s.slots.length < slotCount) (f : Frame) :
    (s.startFrame f).QueuesSound := by
  unfold State.startFrame
  split
  · exact h.endFrame _ _ _ _ _
  · split
    · exact h.occupy hl _ _ _
    · exact h.endFrame _ _ _ _ _
    · exact h.endFrame _ _ _ _ _

theorem applyCompletion (h : s.QueuesSound) (e : Estimate) (c : Completion) :
    (s.applyCompletion e c).QueuesSound := by
  have cleared : ∀ v : State, v.TablesStep
      (if c.clearSilent then v.handSilent e.frame.bin false else v) := by
    intro v
    split
    · exact .handSilent _ _
    · exact .refl v
  have written : s.TablesStep
      ((s.setAssigned e.frame.bin (some c.record)).setLearned e.frame.bin c.learned) :=
    (State.TablesStep.setRecord _ _).trans (.setLearned _ _)
  have handed := (written.trans (cleared _)).trans (.handDue e.frame.bin e.district c.due)
  exact (((h.tablesStep handed).tallyCompletion _ _).raiseGroup _).vacate e

theorem complete (h : s.QueuesSound) (e : Estimate) : (s.complete e).QueuesSound := by
  unfold State.complete
  split
  · exact h.applyCompletion e _
  · exact h.vacate e

theorem makeSilent (h : s.QueuesSound) (b : Nat) (a : Assigned) :
    (s.makeSilent b a).QueuesSound := by
  have written := h.tablesStep (.setRecord b { s.record b with
    assigned := some { a with state := .silent, samples := [] } })
  unfold State.makeSilent
  dsimp only
  split
  · exact (written.tablesStep (.handSilent b true)).raise _
  · exact written.raise _

theorem sweepBin (h : s.QueuesSound) (b : Nat) : (s.sweepBin b).QueuesSound := by
  unfold State.sweepBin
  split
  · split
    · exact h.makeSilent b _
    · exact h
  · exact h

theorem sweep (h : s.QueuesSound) : s.sweep.QueuesSound := by
  unfold State.sweep
  generalize s.sweptBins = bins
  induction bins generalizing s with
  | nil => exact h
  | cons b rest ih => exact ih (h.sweepBin b)

/-! ### Requests -/

/-- A response joins the list where a place is free beside the one kept for a waiting change. -/
theorem respond (h : s.QueuesSound) (hf : s.listFull = false) (r : Request) (x : Result)
    (l : List Contents) : (s.respond r x l).QueuesSound := by
  refine ⟨{ h.bounds with responses := ?_ }, h.keys⟩
  have hl : s.composer.responses.length + (if s.headWaits then 1 else 0) < responseSize := by
    simpa [State.listFull] using hf
  show (s.composer.responses ++ [_]).length + (if s.headWaits then 1 else 0) ≤ responseSize
  rw [List.length_append, List.length_singleton]
  omega

theorem arrive (h : s.QueuesSound) (r : Request) : (s.arrive r).QueuesSound := by
  unfold State.arrive
  split
  · next hl => exact ⟨{ h.bounds with queue := by simpa using hl }, h.keys⟩
  · split
    · exact h.raise _
    · next hf => exact h.respond (Bool.eq_false_iff.2 hf) r _ _

/-- The head is answered while no change waits and a place of the list is free. -/
theorem answer (h : s.QueuesSound) (hc : s.gates.change = none)
    (hl : s.composer.responses.length < responseSize) (r : Request) (x : Result)
    (l : List Contents) : (s.answer r x l).QueuesSound := by
  have left : State.QueuesSound
      { s with management := { s.management with queue := s.management.queue.tail } } :=
    ⟨{ h.bounds with queue := (List.tail_sublist _).length_le.trans h.bounds.queue }, h.keys⟩
  refine left.respond ?_ r x l
  simp only [State.listFull, State.headWaits, hc]
  simpa using hl

theorem reopen (h : s.QueuesSound) (hl : s.composer.responses.length ≤ responseSize)
    (c : PendingChange) : (s.reopen c).QueuesSound := by
  refine ⟨{ h.bounds with deferred := ?_, responses := hl }, h.keys⟩
  rw [State.reopen_gates, Gates.setStates_deferred]
  exact h.bounds.deferred

/-- A change whose gates reopen is answered in the place that was kept for it. -/
theorem answer_reopen (h : s.QueuesSound) (hc : s.gates.change.isSome = true) (c : PendingChange)
    (r : Request) (x : Result) (l : List Contents) : ((s.reopen c).answer r x l).QueuesSound := by
  have hl : s.composer.responses.length + 1 ≤ responseSize := by
    simpa [State.headWaits, hc] using h.bounds.responses
  exact (h.reopen (Nat.le_of_succ_le hl) c).answer rfl hl r x l

theorem setGates (h : s.QueuesSound) (hl : s.composer.responses.length < responseSize)
    (ds : List Nat) : (s.setGates ds).QueuesSound := by
  refine ⟨{ h.bounds with deferred := ?_, responses := hl }, h.keys⟩
  show ((s.gates.setStates ds .changing).deferred).length ≤ deferredSize
  rw [Gates.setStates_deferred]
  exact h.bounds.deferred

theorem applyPending (h : s.QueuesSound) (hc : s.gates.change.isSome = true)
    {apply : Request → State → Applied}
    (ha : ∀ (r : Request) (s : State), s.TablesStep (apply r s).1) (c : PendingChange)
    (r : Request) : (s.applyPending apply c r).QueuesSound := by
  refine (answer_reopen (h.tablesStep (ha r s)) ?_ c r .ok [(apply r s).2]).givePlaces
  rw [(ha r s).frame]
  exact hc

theorem carryChange (h : s.QueuesSound) {r : Request} (hr : s.head = some r)
    {apply : Request → State → Applied}
    (ha : ∀ (r : Request) (s : State), s.TablesStep (apply r s).1) (ds : List Nat) :
    (s.carryChange apply ds r).QueuesSound := by
  obtain ⟨-, hc, hl, -⟩ := State.head_eq_some.1 hr
  have hl : s.composer.responses.length < responseSize := hl.trans (by decide)
  unfold State.carryChange
  split
  · refine answer (h.tablesStep (ha r s)) ?_ ?_ r .ok _ <;> rw [(ha r s).frame]
    · exact hc
    · exact hl
  · split
    · exact (h.setGates hl ds).applyPending rfl ha _ r
    · exact h.setGates hl ds

/-- Serving the head keeps the invariant where carrying the request out does. -/
theorem serve (h : s.QueuesSound) {mine : Request → Bool} {check : State → Request → Option Result}
    {carry : Request → State → State}
    (hk : ∀ r, s.head = some r → (carry r s).QueuesSound) :
    (s.serve mine check carry).QueuesSound := by
  rcases State.serve_cases mine check carry s with hs | ⟨r, hr, -, ⟨x, -, hs⟩ | ⟨-, hs⟩⟩ <;> rw [hs]
  · exact h
  · obtain ⟨-, hc, hl, -⟩ := State.head_eq_some.1 hr
    exact h.answer hc (hl.trans (by decide)) r x _
  · exact hk r hr

/-- A request answered after a step that leaves gates and responses as they were. -/
theorem serve_answer (h : s.QueuesSound) {mine : Request → Bool}
    {check : State → Request → Option Result} {x : Request → Result}
    {l : Request → State → List Contents} {f : Request → State → State}
    (hf : ∀ r, (f r s).QueuesSound ∧ (f r s).gates = s.gates ∧ (f r s).composer = s.composer) :
    (s.serve mine check fun r s => (f r s).answer r (x r) (l r s)).QueuesSound := by
  refine h.serve fun r hr => ?_
  obtain ⟨-, hc, hl, -⟩ := State.head_eq_some.1 hr
  obtain ⟨hq, hg, hm⟩ := hf r
  exact hq.answer (hg ▸ hc) (hm ▸ hl.trans (by decide)) r _ _

theorem serve_report (h : s.QueuesSound) {mine : Request → Bool}
    {check : State → Request → Option Result} {of : Request → State → Contents} :
    (s.serve mine check (State.report of)).QueuesSound :=
  h.serve_answer (f := fun _ s => s) fun _ => ⟨h, rfl, rfl⟩

theorem serve_change (h : s.QueuesSound) {mine : Request → Bool}
    {check : State → Request → Option Result} {apply : Request → State → Applied}
    {ds : Request → State → List Nat}
    (ha : ∀ (r : Request) (s : State), s.TablesStep (apply r s).1) :
    (s.serve mine check fun r s => s.carryChange apply (ds r s) r).QueuesSound :=
  h.serve fun _ hr => h.carryChange hr ha _

end State.QueuesSound
end Sys2Proof.Machine
end

section
/-! PROOFS. Every step keeps the queues bounded and the merge keys distinct (R5, R12, R70, R102,
R113, R136, R151, R154, R156, R160). -/

namespace Sys2Proof.Machine

variable {s t : State}

theorem length_nextResponses_le (l : List Response) : (nextResponses l).length ≤ l.length := by
  cases l with
  | nil => exact Nat.le_refl _
  | cons r rest =>
    simp only [nextResponses]
    split
    · exact Nat.le_succ _
    · exact Nat.le_refl _

theorem Watch.setModes_notices (sel : List (Nat × Nat)) (m : MaskMode) (w : Watch) :
    (w.setModes sel m).notices = w.notices := by
  unfold Watch.setModes
  induction sel generalizing w with
  | nil => rfl
  | cons x rest ih => exact ih (w.setMode x.1 x.2 m)

theorem Watch.clearCounters_notices (sel : List (Nat × Nat)) (w : Watch) :
    (w.clearCounters sel).notices = w.notices := by
  unfold Watch.clearCounters
  induction sel generalizing w with
  | nil => rfl
  | cons x rest ih => exact ih (w.setCounter x.1 x.2 0)

/-- An expiry of the summary timer writes the pending summary and the debt alone, and the debt rises
only from below its limit (R154). -/
theorem summaryExpiry_cases (b : Bool) (c : Composer) :
    ∃ p d, summaryExpiry b c = { c with pendingSummary := p, debt := d } ∧
      (c.debt ≤ debtMax → d ≤ debtMax) := by
  unfold summaryExpiry
  split
  · next hd =>
    split
    · exact ⟨_, _, rfl, id⟩
    · exact ⟨_, _, rfl, fun _ => hd⟩
  · split
    · exact ⟨_, _, rfl, id⟩
    · exact ⟨_, _, rfl, id⟩

namespace State.QueuesSound

/-! ### The composer -/

theorem grantSummary (h : s.QueuesSound) (k : SummaryKind) {debt : Nat} (hd : debt ≤ debtMax)
    (p : Option PendingSummary) : (s.grantSummary k debt p).QueuesSound :=
  ⟨{ h.bounds with debt := hd
                   rotation := Nat.mod_lt _ (by decide)
                   steps := Nat.zero_le _ }, h.keys⟩

theorem grantResponse (h : s.QueuesSound) : s.grantResponse.QueuesSound := by
  unfold State.grantResponse
  split
  · exact h
  · have hl := Nat.add_le_add_right (length_nextResponses_le s.composer.responses)
      (if s.headWaits then 1 else 0)
    exact ⟨{ h.bounds with responses := hl.trans h.bounds.responses }, h.keys⟩

theorem grantNotice (h : s.QueuesSound) : s.grantNotice.QueuesSound :=
  ⟨{ h.bounds with notices := (List.drop_sublist ..).length_le.trans h.bounds.notices }, h.keys⟩

theorem grant (h : s.QueuesSound) (c : Candidate) : (s.grant c).QueuesSound := by
  cases c with
  | start => exact ⟨{ h.bounds with }, h.keys⟩
  | response => exact h.grantResponse
  | forced => exact h.grantSummary _ h.bounds.debt _
  | notice => exact h.grantNotice
  | scheduled => exact h.grantSummary _ h.bounds.debt _
  | catchUp => exact h.grantSummary _ ((Nat.sub_le ..).trans h.bounds.debt) _

theorem arbitrate (h : s.QueuesSound) : s.arbitrate.QueuesSound := by
  unfold State.arbitrate
  split
  · exact h.grant _
  · exact h

theorem grantIf (h : s.QueuesSound) (cs : List Candidate) : (s.grantIf cs).QueuesSound := by
  unfold State.grantIf
  split
  · split
    · exact h.grant _
    · exact h
  · exact h

theorem setPaused (h : s.QueuesSound) (f : Bool) : (s.setPaused f).QueuesSound :=
  ⟨{ h.bounds with }, h.keys⟩

theorem setWatch (h : s.QueuesSound) {w : Watch} (hw : w.notices = s.watch.notices) :
    State.QueuesSound { s with watch := w } :=
  ⟨{ h.bounds with notices := hw ▸ h.bounds.notices }, h.keys⟩

/-! ### Starts -/

theorem restarted (h : s.QueuesSound) (cause : StartCause) : (s.restarted cause).QueuesSound where
  bounds :=
    { window := Nat.zero_le _
      admission := Nat.zero_le _
      slots := Nat.zero_le _
      deferred := Nat.zero_le _
      due := h.bounds.due
      notices := Nat.zero_le _
      queue := Nat.zero_le _
      responses := Nat.zero_le _
      debt := Nat.zero_le _
      rotation := Nat.zero_lt_succ _
      steps := Nat.zero_le _ }
  keys := List.Pairwise.nil

theorem reset : State.reset.QueuesSound where
  bounds :=
    { window := Nat.zero_le _
      admission := Nat.zero_le _
      slots := Nat.zero_le _
      deferred := Nat.zero_le _
      due := Nat.zero_le _
      notices := Nat.zero_le _
      queue := Nat.zero_le _
      responses := Nat.zero_le _
      debt := Nat.zero_le _
      rotation := Nat.zero_lt_succ _
      steps := Nat.zero_le _ }
  keys := List.Pairwise.nil

/-! ### Commands -/

theorem whenRunning (h : s.QueuesSound) {f : State → State} (hf : (f s).QueuesSound) :
    (s.whenRunning f).QueuesSound := by
  unfold State.whenRunning
  split
  · exact hf
  · exact h

end State.QueuesSound

open State.QueuesSound

/-- What every next state of an outcome keeps. -/
def Keeps (P : State → Prop) (o : Host.Outcome State Fault Refusal) : Prop :=
  ∀ t, o = .next t → P t

theorem keeps_next {P : State → Prop} (h : P s) : Keeps P (.next s) := by
  intro t ht
  cases ht
  exact h

theorem keeps_whenRunning (h : s.QueuesSound) {f : State → State} (hf : (f s).QueuesSound) :
    Keeps State.QueuesSound (.next (s.whenRunning f)) := keeps_next (h.whenRunning hf)

/-! ### The uplink commands -/

theorem execIntakeFrameTake_keeps (h : s.QueuesSound) (c0 c1 c2 c3 : Option ChainFrame) :
    Keeps State.QueuesSound (execIntakeFrameTake c0 c1 c2 c3 s) := by
  refine keeps_whenRunning h ?_
  split
  · exact h.takeFrame _ _
  · exact h

theorem execMergeEntryExpiry_keeps (h : s.QueuesSound) (sensor : SensorId) (count : FrameCount) :
    Keeps State.QueuesSound (execMergeEntryExpiry sensor count s) := by
  refine keeps_whenRunning h ?_
  split
  · split
    · exact h.expire _
    · exact h
  · exact h

theorem execEstimateStart_keeps (h : s.QueuesSound) :
    Keeps State.QueuesSound (execEstimateStart s) := by
  refine keeps_whenRunning h ?_
  split
  · next f hf =>
    have hl : s.slots.length < slotCount := by
      by_contra hn
      simp [State.nextFrame, hn] at hf
    exact h.takeAdmitted.startFrame hl f
  · exact h

theorem execEstimateCompletion_keeps (h : s.QueuesSound) (bin : Nat) :
    Keeps State.QueuesSound (execEstimateCompletion bin s) := by
  refine keeps_whenRunning h ?_
  split
  · exact h.complete _
  · exact h

theorem execSilenceSweep_keeps (h : s.QueuesSound) :
    Keeps State.QueuesSound (execSilenceSweep s) := by
  refine keeps_whenRunning h ?_
  dsimp only
  split
  · split
    · exact h.sweep.tablesStep ⟨rfl, id⟩
    · exact h
  · exact h

/-! ### The management interpreter -/

theorem execManagementFrame_keeps (h : s.QueuesSound) (body : List Byte) :
    Keeps State.QueuesSound (execManagementFrame body s) := by
  refine keeps_whenRunning h ?_
  split
  · exact h.arrive _
  · exact h.raise _

theorem execChangeApplication_keeps (h : s.QueuesSound) :
    Keeps State.QueuesSound (execChangeApplication s) := by
  refine keeps_whenRunning h ?_
  split
  · next c r _ hc _ =>
    split
    · exact h.applyPending (by rw [hc]; rfl) applyChange_tablesStep c r
    · exact h
  · exact h

theorem execChangeTimeout_keeps (h : s.QueuesSound) :
    Keeps State.QueuesSound (execChangeTimeout s) := by
  refine keeps_whenRunning h ?_
  split
  · next c r _ hc _ =>
    split
    · exact (h.answer_reopen (by rw [hc]; rfl) c r .timeout _).givePlaces
    · exact h
  · exact h

theorem execLoadWatchMask_keeps (h : s.QueuesSound) :
    Keeps State.QueuesSound (execLoadWatchMask s) := by
  refine keeps_next (h.serve fun r hr => ?_)
  obtain ⟨-, hc, hl, -⟩ := State.head_eq_some.1 hr
  have hl : s.composer.responses.length < responseSize := hl.trans (by decide)
  split
  · exact (h.setWatch (Watch.setModes_notices ..)).answer hc hl r .ok _
  · exact h.answer hc hl r .badArgument _

/-! ### The composer and the timers -/

theorem execTransmissionEnd_keeps (h : s.QueuesSound) :
    Keeps State.QueuesSound (execTransmissionEnd s) := by
  refine keeps_whenRunning h ?_
  dsimp only
  split
  · exact arbitrate ⟨{ h.bounds with }, h.keys⟩
  · exact h

theorem execGo_keeps (h : s.QueuesSound) : Keeps State.QueuesSound (execGo s) := by
  refine keeps_whenRunning h ?_
  split
  · exact (h.setPaused false).arbitrate
  · exact h

theorem execNoticeHoldExpiry_keeps (h : s.QueuesSound) :
    Keeps State.QueuesSound (execNoticeHoldExpiry s) := by
  refine keeps_whenRunning h ?_
  split
  · exact h.arbitrate
  · exact h

theorem execSummaryTimerExpiry_keeps (h : s.QueuesSound) :
    Keeps State.QueuesSound (execSummaryTimerExpiry s) := by
  refine keeps_whenRunning h ?_
  dsimp only
  split
  · split
    · obtain ⟨p, d, hc, hd⟩ := summaryExpiry_cases s.congested s.composer
      rw [hc]
      exact ⟨{ h.bounds with debt := hd h.bounds.debt }, h.keys⟩
    · exact h
  · exact h

theorem execTimeBeacon_keeps (h : s.QueuesSound) (v : BitVec 32) :
    Keeps State.QueuesSound (execTimeBeacon v s) := by
  refine keeps_whenRunning h ?_
  dsimp only
  split
  · exact ⟨{ h.bounds with steps := Nat.min_le_left .. }, h.keys⟩
  · exact ⟨{ h.bounds with }, h.keys⟩

theorem execBeaconLossExpiry_keeps (h : s.QueuesSound) :
    Keeps State.QueuesSound (execBeaconLossExpiry s) := by
  refine keeps_whenRunning h ?_
  dsimp only
  split
  · exact ⟨{ h.bounds with }, h.keys⟩
  · exact h

/-! ### The store, power and starts -/

theorem execStoreWriteBegin_keeps (h : s.QueuesSound) :
    Keeps State.QueuesSound (execStoreWriteBegin s) := by
  refine keeps_next ?_
  split
  · exact ⟨{ h.bounds with }, h.keys⟩
  · exact h

theorem execStoreWriteEnd_keeps (h : s.QueuesSound) :
    Keeps State.QueuesSound (execStoreWriteEnd s) := by
  refine keeps_next ?_
  split
  · exact ⟨{ h.bounds with }, h.keys⟩
  · exact h

theorem execPowerOn_keeps (h : s.QueuesSound) : Keeps State.QueuesSound (execPowerOn s) := by
  refine keeps_next ?_
  split
  · exact h
  · exact ⟨{ reset.bounds with }, reset.keys⟩

theorem execPowerLoss_keeps (h : s.QueuesSound) : Keeps State.QueuesSound (execPowerLoss s) := by
  refine keeps_next ?_
  split
  · exact ⟨{ h.bounds with }, h.keys⟩
  · exact h

theorem execResetLineAssert_keeps (h : s.QueuesSound) :
    Keeps State.QueuesSound (execResetLineAssert s) := by
  refine keeps_next ?_
  split
  · exact h
  · split
    · exact ⟨{ (h.restarted .resetLine).bounds with }, (h.restarted .resetLine).keys⟩
    · exact ⟨{ h.bounds with }, h.keys⟩

theorem execStartComplete_keeps (h : s.QueuesSound) :
    Keeps State.QueuesSound (execStartComplete s) := by
  refine keeps_next ?_
  split
  · split
    · exact ⟨{ h.bounds with }, h.keys⟩
    · exact h
  · exact h

theorem execInboundFrameDiscarded_keeps (h : s.QueuesSound) (bytes : List Byte) :
    Keeps State.QueuesSound (execInboundFrameDiscarded bytes s) := by
  refine keeps_whenRunning h ?_
  split
  · exact h.raise _
  · exact h

/-! ### Every command and every step -/

/-- Every command keeps the queues bounded and the merge keys distinct. -/
theorem exec_keeps_queuesSound (c : Instr) (h : s.QueuesSound) :
    Keeps State.QueuesSound (exec c s) := by
  cases c with
  | intakeFrameTake c0 c1 c2 c3 => exact execIntakeFrameTake_keeps h c0 c1 c2 c3
  | mergeEntryExpiry sensor count => exact execMergeEntryExpiry_keeps h sensor count
  | admissionPlaceGrant => exact keeps_whenRunning h h.givePlaces
  | estimateStart => exact execEstimateStart_keeps h
  | estimateCompletion bin => exact execEstimateCompletion_keeps h bin
  | silenceSweep => exact execSilenceSweep_keeps h
  | managementFrame body => exact execManagementFrame_keeps h body
  | timeBeacon v => exact execTimeBeacon_keeps h v
  | pause => exact keeps_whenRunning h (h.setPaused true)
  | go => exact execGo_keeps h
  | loadPrefix => exact keeps_next (h.serve_change applyLoadPrefix_tablesStep)
  | clearPrefix => exact keeps_next (h.serve_change applyClearPrefix_tablesStep)
  | readPrefix => exact keeps_next h.serve_report
  | loadDevice => exact keeps_next (h.serve_change applyLoadDevice_tablesStep)
  | clearDevice => exact keeps_next (h.serve_change applyClearDevice_tablesStep)
  | readDeviceByEntry => exact keeps_next h.serve_report
  | readDeviceBySensor => exact keeps_next h.serve_report
  | loadBin => exact keeps_next (h.serve_change applyLoadBin_tablesStep)
  | retireBin => exact keeps_next (h.serve_change applyRetireBin_tablesStep)
  | clearDistrict => exact keeps_next (h.serve_change applyClearDistrict_tablesStep)
  | readBin => exact keeps_next h.serve_report
  | loadProfile => exact keeps_next (h.serve_change applyLoadProfile_tablesStep)
  | readProfile => exact keeps_next h.serve_report
  | readOutcomes => exact keeps_next h.serve_report
  | requestDueList =>
    exact keeps_next (h.serve_answer (f := fun _ s => s) fun _ => ⟨h, rfl, rfl⟩)
  | loadWatchMask => exact execLoadWatchMask_keeps h
  | readCounters => exact keeps_next h.serve_report
  | readCountersReset =>
    exact keeps_next (h.serve_answer fun _ =>
      ⟨h.setWatch (Watch.clearCounters_notices ..), rfl, rfl⟩)
  | resetCounters =>
    exact keeps_next (h.serve_answer fun _ =>
      ⟨h.setWatch (Watch.clearCounters_notices ..), rfl, rfl⟩)
  | loadAuthority =>
    exact keeps_next (h.serve_answer fun _ => ⟨⟨{ h.bounds with }, h.keys⟩, rfl, rfl⟩)
  | readAuthority => exact keeps_next h.serve_report
  | storeConfig =>
    exact keeps_next (h.serve_answer fun _ => ⟨⟨{ h.bounds with }, h.keys⟩, rfl, rfl⟩)
  | readConfig => exact keeps_next h.serve_report
  | restart => exact keeps_next (h.serve fun r _ => h.restarted _)
  | unknownOp => exact keeps_next (h.serve fun _ _ => h)
  | changeApplication => exact execChangeApplication_keeps h
  | changeTimeout => exact execChangeTimeout_keeps h
  | transmissionEnd => exact execTransmissionEnd_keeps h
  | startGrant => exact keeps_whenRunning h (h.grantIf _)
  | responseGrant => exact keeps_whenRunning h (h.grantIf _)
  | noticeGrant => exact keeps_whenRunning h (h.grantIf _)
  | summaryGrant => exact keeps_whenRunning h (h.grantIf _)
  | catchUpSummary => exact keeps_whenRunning h (h.grantIf _)
  | noticeHoldExpiry => exact execNoticeHoldExpiry_keeps h
  | summaryTimerExpiry => exact execSummaryTimerExpiry_keeps h
  | beaconLossExpiry => exact execBeaconLossExpiry_keeps h
  | storeWriteBegin => exact execStoreWriteBegin_keeps h
  | storeWriteEnd => exact execStoreWriteEnd_keeps h
  | powerOn => exact execPowerOn_keeps h
  | powerLoss => exact execPowerLoss_keeps h
  | resetLineAssert => exact execResetLineAssert_keeps h
  | resetLineRelease => exact keeps_next ⟨{ h.bounds with }, h.keys⟩
  | startComplete => exact execStartComplete_keeps h
  | inboundFrameDiscarded bytes => exact execInboundFrameDiscarded_keeps h bytes

theorem State.QueuesSound.tick (h : s.QueuesSound) : s.tick.QueuesSound := by
  unfold State.tick
  split
  · exact ⟨{ h.bounds with }, h.keys⟩
  · exact h

theorem step_keeps_queuesSound (h : s.QueuesSound) : Keeps State.QueuesSound (step s) := by
  unfold step
  split
  · unfold idle
    split
    · exact exec_keeps_queuesSound _ h
    · exact keeps_next h.tick
  · exact exec_keeps_queuesSound _ ⟨{ h.bounds with }, h.keys⟩

/-- Settles O53: each command keeps `State.QueuesSound`, and so does the tick. -/
theorem everyStepKeepsQueuesBounded : Obligations.EveryStepKeepsQueuesBounded := by
  intro s t hb hk hs
  have ht := step_keeps_queuesSound ⟨hb, hk⟩ t hs
  exact ⟨ht.bounds, ht.keys⟩

end Sys2Proof.Machine
end

section
/-! PROOFS. What the intake port, the merge window and the release of an entry do, in the words of
the statements (R1 to R11, R97, R99). -/

namespace Sys2Proof.Machine

open Sys2Proof.Statements

variable {s t : State} {q : Nat} {p : List Byte}

/-! ### Tallies and events (R97, R99) -/

theorem OutcomeCode.place_lt (o : OutcomeCode) : o.place < tallyCount := by
  cases o <;> decide

/-- A count that rises is one count of one row; the others of every row stay. -/
theorem Gates.tally_tallyUp {g : Gates} (h : g.tallies.wf = true) {row place r k : Nat}
    (hp : place < tallyCount) (hk : k < tallyCount) :
    (g.tallyUp row place).tally r k =
      if r = row ∧ k = place then g.tally r k + 1 else g.tally r k := by
  have index : r * tallyCount + k = row * tallyCount + place ↔ r = row ∧ k = place := by
    simp only [tallyCount] at *
    omega
  unfold Gates.tallyUp Gates.tally
  rw [Table.read_write h]
  by_cases hi : r = row ∧ k = place
  · rw [if_pos (index.2 hi), if_pos hi, index.2 hi]
  · rw [if_neg (mt index.1 hi), if_neg hi]

/-- A tally that rises and one event are an end of a frame. -/
theorem ends_of_tallyUp (h : s.gates.tallies.wf = true) {row : Nat} {o : OutcomeCode} {e : Event}
    (hg : t.gates.tallies = (s.gates.tallyUp row o.place).tallies)
    (hw : t.watch = s.watch.takeGroup s.time [e]) : Ends s t row o e := by
  refine ⟨fun r k hk => ?_, hw⟩
  rw [← Gates.tally_tallyUp h o.place_lt hk]
  simp only [Gates.tally, hg]

/-! ### Releases (R11, R21, R23, R101) -/

/-- What handing an entry on makes of the admission queue, the gate block and the watch unit is its
release. -/
theorem released_of_handOn (h : s.gates.tallies.wf = true) {e : MergeEntry}
    (ha : t.intake.admission = (s.handOn e).intake.admission)
    (hg : t.gates = (s.handOn e).gates) (hw : t.watch = (s.handOn e).watch) :
    Released s t e := by
  unfold Released
  rcases State.handOn_cases e s with ⟨code, row, bin, ht, ho⟩ | ⟨bin, d, ht, ho⟩ <;>
    rw [ht] <;> rw [ho] at ha hg hw <;> dsimp only
  · exact ⟨ha, (congrArg Gates.deferred hg :), ends_of_tallyUp h (congrArg Gates.tallies hg :) hw⟩
  · rcases State.gateTest_cases ⟨e.payload, bin, e.openedAt / 1000⟩ d s with
      ⟨hd, hc⟩ | ⟨hd, hl, hc⟩ | ⟨hd, hl, hc⟩ <;> rw [hc] at ha hg hw
    · rw [if_pos hd]
      exact ⟨ha, hg, hw⟩
    · rw [if_neg hd, if_pos (show s.gates.deferred.length < 32 from hl)]
      exact ⟨ha, (congrArg Gates.deferred hg :), ends_of_tallyUp h (congrArg Gates.tallies hg :) hw⟩
    · rw [if_neg hd, if_neg (show ¬ s.gates.deferred.length < 32 from Nat.not_lt.2 hl)]
      exact ⟨ha, (congrArg Gates.deferred hg :), ends_of_tallyUp h (congrArg Gates.tallies hg :) hw⟩

theorem State.handOn_tallies_wf (h : s.gates.tallies.wf = true) (e : MergeEntry) :
    (s.handOn e).gates.tallies.wf = true := by
  rcases State.handOn_cases e s with ⟨_, _, _, -, ho⟩ | ⟨bin, d, -, ho⟩ <;> rw [ho]
  · exact Table.wf_set h _ _
  · rcases State.gateTest_cases ⟨e.payload, bin, e.openedAt / 1000⟩ d s with
      ⟨-, hc⟩ | ⟨-, -, hc⟩ | ⟨-, -, hc⟩ <;> rw [hc]
    · exact h
    · exact Table.wf_set h _ _
    · exact Table.wf_set h _ _

/-- A step that reaches the admission queue, the deferred queue, the tallies and the watch unit
alone, with the port and the window written besides. -/
theorem State.setPort_frame {u : State} {chain : Nat} {w : List MergeEntry} (h : t = { s with
      intake := { s.intake with admission := t.intake.admission }
      gates := { s.gates with deferred := t.gates.deferred, tallies := t.gates.tallies }
      watch := t.watch }) (hu : u = t.setPort chain w) :
    u = { s with
      intake := { lastChain := chain, window := w, admission := u.intake.admission }
      gates := { s.gates with deferred := u.gates.deferred, tallies := u.gates.tallies }
      watch := u.watch } := by
  subst hu
  exact congrArg (State.setPort chain w) h

theorem State.setPort_admission (chain : Nat) (w : List MergeEntry) (s : State) :
    (s.setPort chain w).intake.admission = s.intake.admission := rfl

theorem State.setPort_gates (chain : Nat) (w : List MergeEntry) (s : State) :
    (s.setPort chain w).gates = s.gates := rfl

theorem State.setPort_watch (chain : Nat) (w : List MergeEntry) (s : State) :
    (s.setPort chain w).watch = s.watch := rfl

/-- An entry handed on is released, whatever the port and the window are written as besides. -/
theorem released_setPort (h : s.gates.tallies.wf = true) (e : MergeEntry) (chain : Nat)
    (w : List MergeEntry) : Released s ((s.handOn e).setPort chain w) e :=
  released_of_handOn h (State.setPort_admission ..) (State.setPort_gates ..)
    (State.setPort_watch ..)

/-! ### A new key (R8, R9) -/

theorem State.newEntry_setPort (chain : Nat) (w : List MergeEntry) :
    (s.setPort chain w).newEntry q p = opened s q p := rfl

theorem newKey_iff : NewKey s p ↔
    ∀ e ∈ s.intake.window, e.hasKey (sensorOf p) (countOf p) = false := by
  simp only [NewKey, ← Bool.not_eq_true, MergeEntry.hasKey_iff]

theorem State.setWindow_self (s : State) : s.setWindow s.intake.window = s := rfl

theorem State.setWindow_setWindow (v w : List MergeEntry) (s : State) :
    (s.setWindow v).setWindow w = s.setWindow w := rfl

/-- With a window length above 0 a new entry waits at the end of the window. -/
theorem State.openEntry_waits (hw : 0 < s.windowLength) :
    s.openEntry q p = s.setWindow (s.intake.window ++ [s.newEntry q p]) := by
  unfold State.openEntry
  rw [if_neg (Nat.ne_of_gt hw)]

/-- With a window length of 0 a new entry is held where admission cannot receive it. -/
theorem State.openEntry_held (hw : s.windowLength = 0) (hr : s.canReceive = false)
    (hn : NewKey s p) : s.openEntry q p =
      s.setWindow (s.intake.window ++ [{ s.newEntry q p with held := true }]) := by
  have hr' : (s.setWindow (s.intake.window ++ [s.newEntry q p])).canReceive = false := hr
  unfold State.openEntry State.expire
  simp only [hw, if_true, hr', Bool.false_eq_true, if_false]
  exact congrArg s.setWindow (map_key (fun x => { x with held := true })
    (MergeEntry.hasKey_self _) (newKey_iff.1 hn) (List.forall_mem_nil _))

/-- With a window length of 0 a new entry is released where admission can receive it, and the window
is as it was. -/
theorem State.openEntry_released (hw : s.windowLength = 0) (hr : s.canReceive = true)
    (hn : NewKey s p) : s.openEntry q p = s.handOn (s.newEntry q p) := by
  have hr' : (s.setWindow (s.intake.window ++ [s.newEntry q p])).canReceive = true := hr
  have out : (s.intake.window ++ [s.newEntry q p]).filter
      (fun x => !x.hasKey (s.newEntry q p).sensor (s.newEntry q p).count) = s.intake.window :=
    (filter_key (MergeEntry.hasKey_self _) (newKey_iff.1 hn) (List.forall_mem_nil _)).trans
      (List.append_nil _)
  unfold State.openEntry State.expire
  simp only [hw, if_true, hr']
  rw [State.release_eq, State.handOn_setWindow, State.setWindow_intake]
  dsimp only
  rw [out, State.setWindow_setWindow, ← State.handOn_window (s.newEntry q p) s]
  exact State.setWindow_self _

/-! The same three openings, in a state whose port and window have been written. -/

theorem State.openEntry_setPort_waits {chain : Nat} {w : List MergeEntry}
    (hm : 0 < s.inForce.settings.mergeWindow) :
    (s.setPort chain w).openEntry q p = s.setPort chain (w ++ [opened s q p]) :=
  State.openEntry_waits hm

theorem State.openEntry_setPort_held {chain : Nat} {w : List MergeEntry}
    (hm : s.inForce.settings.mergeWindow = 0)
    (hr : 16 ≤ s.intake.admission.length ∨ s.openDeferred.isSome = true)
    (hn : ∀ e ∈ w, ¬ (e.sensor = sensorOf p ∧ e.count = countOf p)) :
    (s.setPort chain w).openEntry q p =
      s.setPort chain (w ++ [{ opened s q p with held := true }]) :=
  State.openEntry_held hm (State.canReceive_eq_false.2 hr) hn

theorem State.openEntry_setPort_released {chain : Nat} {w : List MergeEntry}
    (hm : s.inForce.settings.mergeWindow = 0) (ha : s.intake.admission.length < 16)
    (hd : s.openDeferred = none)
    (hn : ∀ e ∈ w, ¬ (e.sensor = sensorOf p ∧ e.count = countOf p)) :
    (s.setPort chain w).openEntry q p = (s.handOn (opened s q p)).setPort chain w := by
  rw [State.openEntry_released (s := s.setPort chain w) hm (State.canReceive_iff.2 ⟨ha, hd⟩) hn,
    State.newEntry_setPort, State.handOn_setPort]

/-! ### Taking a frame (R1 to R3) -/

/-- Of a well-formed frame that the port takes, the merge window decides. -/
theorem exec_take_wellFormed {c0 c1 c2 c3 : Option ChainFrame} {chain : Nat} {f : ChainFrame}
    (ht : Takes s c0 c1 c2 c3 chain f) (hp : p = f.bytes.take f.length.toNat)
    (hf : formFault f.radio p = none) :
    exec (.intakeFrameTake c0 c1 c2 c3) s =
      .next ((s.setPort chain s.intake.window).intoWindow f.quality.toNat p) := by
  obtain ⟨hr, hc⟩ := ht
  subst hp
  show execIntakeFrameTake c0 c1 c2 c3 s = _
  unfold execIntakeFrameTake
  rw [State.whenRunning_of_running hr, hc]
  simp only [State.takeFrame, takenPayload, hf]
  rfl

/-- A frame that the port takes and that fails a form check ends FORMAT. -/
theorem exec_take_malformed {c0 c1 c2 c3 : Option ChainFrame} {chain : Nat} {f : ChainFrame}
    {d : FormDetail} (ht : Takes s c0 c1 c2 c3 chain f) (hp : p = f.bytes.take f.length.toNat)
    (hf : formFault f.radio p = some d) :
    exec (.intakeFrameTake c0 c1 c2 c3) s =
      .next ((s.setPort chain s.intake.window).endFormat p d) := by
  obtain ⟨hr, hc⟩ := ht
  subst hp
  show execIntakeFrameTake c0 c1 c2 c3 s = _
  unfold execIntakeFrameTake
  rw [State.whenRunning_of_running hr, hc]
  simp only [State.takeFrame, takenPayload, hf]
  rfl

/-- A copy of a key that stands in the window merges (R7). -/
theorem State.intoWindow_merges {e : MergeEntry} (he : e ∈ s.intake.window)
    (hk : e.hasKey (sensorOf p) (countOf p) = true) :
    s.intoWindow q p = s.setWindow (mergeInto q p s.intake.window) := by
  unfold State.intoWindow
  rw [if_pos (List.any_eq_true.2 ⟨e, he, hk⟩)]

theorem not_any_of_newKey (hn : NewKey s p) :
    ¬ s.intake.window.any (MergeEntry.hasKey (sensorOf p) (countOf p)) = true := by
  rw [List.any_eq_true]
  rintro ⟨e, he, hk⟩
  exact hn e he (MergeEntry.hasKey_iff.1 hk)

/-- A new key opens an entry while the window has a place (R8). -/
theorem State.intoWindow_opens (hn : NewKey s p) (hl : s.intake.window.length < 64) :
    s.intoWindow q p = s.openEntry q p := by
  unfold State.intoWindow
  rw [if_neg (not_any_of_newKey hn), if_pos (show _ < windowSize from hl)]

/-- A new key that meets a full window releases the oldest entry early, or ends INTAKE_FULL (R9). -/
theorem State.intoWindow_full {oldest : MergeEntry} {rest : List MergeEntry} (hn : NewKey s p)
    (hw : s.intake.window = oldest :: rest) (hl : rest.length = 63) :
    s.intoWindow q p = if s.canReceive then (s.release oldest).openEntry q p
      else s.endFrame .overrun unplacedRow none p .intakeFull := by
  have full : ¬ s.intake.window.length < windowSize := by
    rw [hw, List.length_cons, hl]
    decide
  unfold State.intoWindow
  rw [if_neg (not_any_of_newKey hn), if_neg full, State.openFull, hw]

/-- A new key taken while the window has a place opens an entry (R8). -/
theorem exec_take_newKey {c0 c1 c2 c3 : Option ChainFrame} {chain : Nat} {f : ChainFrame}
    (ht : Takes s c0 c1 c2 c3 chain f) (hp : p = f.bytes.take f.length.toNat)
    (hf : formFault f.radio p = none) (hn : NewKey s p) (hl : s.intake.window.length < 64) :
    exec (.intakeFrameTake c0 c1 c2 c3) s =
      .next ((s.setPort chain s.intake.window).openEntry f.quality.toNat p) :=
  (exec_take_wellFormed ht hp hf).trans (congrArg _
    (State.intoWindow_opens (s := s.setPort chain s.intake.window) hn hl))

end Sys2Proof.Machine
end

section
/-! PROOFS. The statements about the intake port and the merging of copies (R1 to R11). -/

namespace Sys2Proof.Machine

open Sys2Proof.Statements

variable {s t : State} {q : Nat} {p : List Byte}

/-! ### The chains in turn (R1) -/

/-- The k-th chain the port looks at, from 0. -/
theorem getElem?_chains (last : Nat) {k : Nat} (hk : k < 4) :
    ([1, 2, 3, 4].map fun i => (last + i) % 4)[k]? = some ((last + (k + 1)) % 4) := by
  interval_cases k <;> rfl

theorem mem_chains {last c : Nat} (hc : c < 4) :
    c ∈ [1, 2, 3, 4].map fun i => (last + i) % 4 := by
  simp only [List.map_cons, List.map_nil, List.mem_cons, List.not_mem_nil, or_false]
  omega

theorem chooseChain_eq_none {last : Nat} {offers : List (Option ChainFrame)}
    (h : chooseChain last offers = none) {c : Nat} (hc : c < 4) : offers.getD c none = none := by
  have hn := List.findSome?_eq_none_iff.1 h c (mem_chains hc)
  split at hn
  · cases hn
  · assumption

/-- The chain the port takes offers its frame, and no chain it looked at before does. -/
theorem chooseChain_eq_some {last c : Nat} {offers : List (Option ChainFrame)} {f : ChainFrame}
    (h : chooseChain last offers = some (c, f)) :
    ∃ i, 1 ≤ i ∧ i ≤ 4 ∧ c = (last + i) % 4 ∧ offers.getD c none = some f ∧
      ∀ j, 1 ≤ j → j < i → offers.getD ((last + j) % 4) none = none := by
  obtain ⟨before, a, after, hl, ha, hn⟩ := List.findSome?_eq_some_iff.1 h
  have hlen : before.length < 4 := by
    have := congrArg List.length hl
    simp only [List.length_map, List.length_cons, List.length_nil, List.length_append] at this
    omega
  have offering : offers.getD a none = some f ∧ a = c := by
    split at ha
    · next g hg => cases ha; exact ⟨hg, rfl⟩
    · cases ha
  obtain ⟨hoff, rfl⟩ := offering
  refine ⟨before.length + 1, by omega, by omega, ?_, hoff, fun j hj hi => ?_⟩
  · have := getElem?_chains last hlen
    rw [hl, List.getElem?_append_right (Nat.le_refl _), Nat.sub_self] at this
    exact Option.some.inj this
  · obtain ⟨k, rfl⟩ := Nat.exists_eq_add_of_le' hj
    have hk : k < before.length := Nat.lt_of_succ_lt_succ hi
    have := getElem?_chains last (hk.trans hlen)
    rw [hl, List.getElem?_append_left hk] at this
    have silent := hn _ (List.mem_of_getElem? this)
    split at silent
    · cases silent
    · assumption

/-- Settles O6: the port looks at the chains in the order of R1. -/
theorem portServesChainsRoundRobin : Obligations.PortServesChainsRoundRobin := fun _ _ =>
  ⟨fun _ _ => chooseChain_eq_some, fun h _ => chooseChain_eq_none h⟩

/-! ### Merging and opening (R7, R8) -/

/-- Settles O7: the window decides of a well-formed frame by its key, and a new entry waits, is held
or is released as the window length and admission decide. -/
theorem copyMergesOrOpensAnEntry : Obligations.CopyMergesOrOpensAnEntry := by
  intro s c0 c1 c2 c3 chain f p hcan ht hp hf
  refine ⟨fun before e after hw hk hs hc => ?_, fun hn hl hm => ?_, fun hn hl hm =>
    ⟨fun hr => ?_, fun ha hd => ?_⟩⟩
  · have he : e.hasKey (sensorOf p) (countOf p) = true := MergeEntry.hasKey_iff.2 ⟨hs, hc⟩
    have hmem : e ∈ s.intake.window := by rw [hw]; simp
    have hother := hasKey_others (hw ▸ hk : (before ++ e :: after).Pairwise _)
    rw [hs, hc] at hother
    have merged : mergeInto f.quality.toNat p s.intake.window =
        before ++ e.merge f.quality.toNat p :: after := by
      rw [hw]
      exact map_key _ he hother.1 hother.2
    rw [exec_take_wellFormed ht hp hf,
      State.intoWindow_merges (s := s.setPort chain s.intake.window) hmem he]
    exact congrArg (fun w => Host.Outcome.next (s.setPort chain w)) merged
  · rw [exec_take_newKey ht hp hf hn hl, State.openEntry_setPort_waits hm]
    rfl
  · rw [exec_take_newKey ht hp hf hn hl, State.openEntry_setPort_held hm hr hn]
    rfl
  · rw [exec_take_newKey ht hp hf hn hl, State.openEntry_setPort_released hm ha hd hn]
    exact ⟨_, rfl, State.setPort_frame (State.handOn_frame _ s) rfl,
      released_setPort (Table.wf_of_canonical hcan.tallies) ..⟩

/-! ### The form checks (R3, R4) -/

/-- The form checks in the words of R3. -/
theorem formFault_eq (radio : Byte) (p : List Byte) : formFault radio p =
    if radio.getLsbD 0 = false then some .radioCheck
    else if p.length < 7 then some .length
    else if byteAt p 6 < 1 ∨ 3 < byteAt p 6 then some .badKind
    else if byteAt p 6 = 1 ∧ p.length < 8 then some .length
    else if byteAt p 6 = 1 ∧ 4 < byteAt p 7 then some .echoCount
    else if p.length ≠ (if byteAt p 6 = 1 then 13 + 2 * byteAt p 7 else 10) then some .length
    else none := by
  unfold formFault
  cases radio.getLsbD 0 with
  | false => rfl
  | true =>
    by_cases hl : p.length < 7
    · simp only [Bool.not_true, Bool.false_eq_true, if_false, hl, if_true]
      rfl
    · have kind : byteAt p 6 = 1 ∨ byteAt p 6 = 2 ∨ byteAt p 6 = 3 ∨
          (byteAt p 6 < 1 ∨ 3 < byteAt p 6) := by omega
      rcases kind with h | h | h | h
      · have hk : kindOf p = some .reading := by simp [kindOf, FrameKind.ofCode, h]
        simp only [hk, h, hl, requiredPayload, echoCount]
        rfl
      · have hk : kindOf p = some .status := by simp [kindOf, FrameKind.ofCode, h]
        simp only [hk, h, hl, requiredPayload]
        rfl
      · have hk : kindOf p = some .install := by simp [kindOf, FrameKind.ofCode, h]
        simp only [hk, h, hl, requiredPayload]
        rfl
      · have hk : kindOf p = none := by
          simp only [kindOf, FrameKind.ofCode]
          rw [if_neg (by omega), if_neg (by omega), if_neg (by omega)]
        simp only [hk, hl, if_pos h]
        rfl

/-- Settles O8: the checks of R3 in order, and the FORMAT end of a frame that fails one. -/
theorem formChecksAndTheirFailure : Obligations.FormChecksAndTheirFailure := by
  refine ⟨formFault_eq, rfl, fun s c0 c1 c2 c3 chain f p d hcan ht hp hf => ?_⟩
  exact ⟨_, exec_take_malformed ht hp hf, rfl,
    ends_of_tallyUp (Table.wf_of_canonical hcan.tallies) rfl rfl⟩

end Sys2Proof.Machine
end

section
/-! PROOFS. The statements about a full window and an expiry (R9, R10). -/

namespace Sys2Proof.Machine

open Sys2Proof.Statements

variable {s : State} {q : Nat} {p : List Byte}

/-! ### A full window (R9) -/

theorem State.canReceive_setPort (chain : Nat) (w : List MergeEntry) :
    (s.setPort chain w).canReceive = s.canReceive := rfl

theorem State.setPort_setPort (c c' : Nat) (v w : List MergeEntry) (s : State) :
    (s.setPort c v).setPort c' w = s.setPort c' w := rfl

/-- An entry released from a window of distinct keys: it is handed on, and the rest of the window
stays. -/
theorem State.release_entry {before after : List MergeEntry} {e : MergeEntry}
    (hw : s.intake.window = before ++ e :: after) (hk : s.KeysDistinct) :
    s.release e = (s.handOn e).setPort s.intake.lastChain (before ++ after) := by
  obtain ⟨hb, ha⟩ := hasKey_others (hw ▸ hk : (before ++ e :: after).Pairwise _)
  rw [State.release_eq, hw, filter_key e.hasKey_self hb ha, State.setWindow_eq_setPort,
    State.handOn_lastChain]

/-- The oldest entry released early, where the port has just taken a frame. -/
theorem State.release_oldest {oldest : MergeEntry} {rest : List MergeEntry} (chain : Nat)
    (hw : s.intake.window = oldest :: rest) (hk : s.KeysDistinct) :
    (s.setPort chain s.intake.window).release oldest = (s.handOn oldest).setPort chain rest := by
  rw [State.release_entry (s := s.setPort chain s.intake.window) (before := []) hw hk,
    State.handOn_setPort]
  exact State.setPort_setPort ..

theorem State.handOn_time (e : MergeEntry) (s : State) : (s.handOn e).time = s.time := by
  rcases State.handOn_cases e s with ⟨_, _, _, -, ho⟩ | ⟨_, _, -, ho⟩ <;> rw [ho]
  · rfl
  · rw [State.gateTest_frame]

theorem State.handOn_inForce (e : MergeEntry) (s : State) :
    (s.handOn e).inForce = s.inForce := by
  rcases State.handOn_cases e s with ⟨_, _, _, -, ho⟩ | ⟨_, _, -, ho⟩ <;> rw [ho]
  · rfl
  · rw [State.gateTest_frame]

/-- Settles O9: admission decides whether the oldest entry is released early, and after the release
the new entry opens as in a window with a place. -/
theorem fullWindowReleasesEarlyOrRefuses : Obligations.FullWindowReleasesEarlyOrRefuses := by
  intro s c0 c1 c2 c3 chain f p oldest rest hcan hk ht hp hf hn hw hl
  have hwf := Table.wf_of_canonical hcan.tallies
  have taken : exec (.intakeFrameTake c0 c1 c2 c3) s = .next
      (if s.canReceive then ((s.handOn oldest).setPort chain rest).openEntry f.quality.toNat p
        else (s.setPort chain s.intake.window).endFrame .overrun unplacedRow none p
          .intakeFull) := by
    rw [exec_take_wellFormed ht hp hf,
      State.intoWindow_full (s := s.setPort chain s.intake.window) hn hw hl,
      State.release_oldest chain hw hk, State.canReceive_setPort]
  have hnew : ∀ e ∈ rest, ¬ (e.sensor = sensorOf p ∧ e.count = countOf p) := fun e he =>
    hn e (hw ▸ List.mem_cons_of_mem _ he)
  have opens : opened (s.handOn oldest) f.quality.toNat p = opened s f.quality.toNat p := by
    simp only [opened, State.handOn_time, State.handOn_inForce]
  have hm' := congrArg (fun x => x.settings.mergeWindow) (State.handOn_inForce oldest s)
  rw [taken]
  refine ⟨fun hr => ?_, fun ha hd hm => ?_, fun ha hd hm => ?_⟩
  · rw [State.canReceive_eq_false.2 hr]
    exact ⟨_, rfl, rfl, ends_of_tallyUp hwf rfl rfl⟩
  · rw [State.canReceive_iff.2 ⟨ha, hd⟩, if_pos rfl,
      State.openEntry_setPort_waits (hm'.symm ▸ hm : 0 < _), opens]
    exact ⟨_, rfl, State.setPort_frame (State.handOn_frame _ s) rfl, released_setPort hwf ..⟩
  · rw [State.canReceive_iff.2 ⟨ha, hd⟩, if_pos rfl]
    refine ⟨s.handOn oldest, _, rfl, State.handOn_frame oldest s,
      released_of_handOn hwf rfl rfl rfl, fun hr => ?_, fun ha' hd' => ?_⟩
    · rw [State.openEntry_setPort_held (hm'.trans hm) hr hnew, opens]
      rfl
    · rw [State.openEntry_setPort_released (hm'.trans hm) ha' hd' hnew, opens]
      exact ⟨State.setPort_frame (State.handOn_frame _ _) rfl,
        released_setPort (State.handOn_tallies_wf hwf oldest) ..⟩

/-! ### An expiry (R10) -/

/-- The entry that a key names in a window of distinct keys. -/
theorem find_key {before after : List MergeEntry} {e : MergeEntry}
    (hb : ∀ x ∈ before, x.hasKey e.sensor e.count = false) :
    (before ++ e :: after).find? (MergeEntry.hasKey e.sensor e.count) = some e :=
  List.find?_eq_some_iff_append.2 ⟨e.hasKey_self, before, after, rfl, fun x hx => by simp [hb x hx]⟩

/-- Settles O10: an expiring entry is released where admission can receive it, else held. -/
theorem expiringEntryIsReleasedOrHeld : Obligations.ExpiringEntryIsReleasedOrHeld := by
  intro s before after e hcan hk hr hw hx hh
  obtain ⟨hb, ha⟩ := hasKey_others (hw ▸ hk : (before ++ e :: after).Pairwise _)
  have expires : exec (.mergeEntryExpiry e.sensor e.count) s = .next (s.expire e) := by
    show execMergeEntryExpiry e.sensor e.count s = _
    unfold execMergeEntryExpiry
    rw [State.whenRunning_of_running hr, hw, find_key hb]
    simp only [hx, hh, and_self, if_true]
  rw [expires]
  unfold State.expire
  refine ⟨fun hc => ?_, fun hc hd => ?_⟩
  · rw [State.canReceive_eq_false.2 hc, hw,
      map_key (fun x => { x with held := true }) e.hasKey_self hb ha]
    rfl
  · rw [State.canReceive_iff.2 ⟨hc, hd⟩, if_pos rfl, State.release_entry hw hk]
    exact ⟨_, rfl, State.setPort_frame (State.handOn_frame _ s) rfl,
      released_setPort (Table.wf_of_canonical hcan.tallies) ..⟩

end Sys2Proof.Machine
end

section
/-! PROOFS. The giving of admission places (R12, R15, R102, R106). -/

namespace Sys2Proof.Machine

open Sys2Proof.Statements

variable {s t : State}

/-! ### The held entry of the earliest expiry (R15) -/

theorem firstHeld_eq_none {w : List MergeEntry} (h : firstHeld w = none) :
    ∀ e ∈ w, e.held = false := by
  induction w with
  | nil => exact List.forall_mem_nil _
  | cons e rest ih =>
    unfold firstHeld at h
    split at h
    · next he => exact List.forall_mem_cons.2 ⟨he, ih h⟩
    · cases h
    · split at h <;> cases h

/-- The first held entry expires before every held entry opened earlier, and no later than every
held entry opened after it. -/
theorem firstHeld_spec {w : List MergeEntry} {e : MergeEntry} (h : firstHeld w = some e) :
    ∃ before after, w = before ++ e :: after ∧ e.held = true ∧
      (∀ x ∈ before, x.held = true → e.expiry < x.expiry) ∧
      ∀ x ∈ after, x.held = true → e.expiry ≤ x.expiry := by
  induction w generalizing e with
  | nil => cases h
  | cons y rest ih =>
    unfold firstHeld at h
    split at h
    · next hy =>
      obtain ⟨before, after, hw, he, hb, ha⟩ := ih h
      refine ⟨y :: before, after, by rw [hw]; rfl, he, List.forall_mem_cons.2 ⟨?_, hb⟩, ha⟩
      intro hheld
      rw [hy] at hheld
      cases hheld
    · next hy hr =>
      cases h
      refine ⟨[], rest, rfl, hy, List.forall_mem_nil _, fun x hx hheld => ?_⟩
      rw [firstHeld_eq_none hr x hx] at hheld
      cases hheld
    · next other hy hr =>
      obtain ⟨before, after, hw, he, hb, ha⟩ := ih hr
      split at h
      · next hlt =>
        cases h
        exact ⟨y :: before, after, by rw [hw]; rfl, he,
          List.forall_mem_cons.2 ⟨fun _ => hlt, hb⟩, ha⟩
      · next hle =>
        cases h
        refine ⟨[], rest, rfl, hy, List.forall_mem_nil _, fun x hx hheld => ?_⟩
        rw [hw, List.mem_append, List.mem_cons] at hx
        rcases hx with hx | hx | hx
        · exact (Nat.le_of_not_lt hle).trans (hb x hx hheld).le
        · exact hx ▸ Nat.le_of_not_lt hle
        · exact (Nat.le_of_not_lt hle).trans (ha x hx hheld)

/-! ### What a release leaves -/

theorem State.release_eq_setPort (e : MergeEntry) (s : State) : s.release e =
    (s.handOn e).setPort s.intake.lastChain
      (s.intake.window.filter fun x => !x.hasKey e.sensor e.count) := by
  rw [State.release_eq, State.setWindow_eq_setPort, State.handOn_lastChain]

theorem State.release_window (e : MergeEntry) (s : State) : (s.release e).intake.window =
    s.intake.window.filter fun x => !x.hasKey e.sensor e.count := by
  rw [State.release_eq]
  rfl

theorem State.release_admission (e : MergeEntry) (s : State) :
    (s.release e).intake.admission = (s.handOn e).intake.admission := by
  rw [State.release_eq_setPort, State.setPort_admission]

theorem State.release_gates (e : MergeEntry) (s : State) :
    (s.release e).gates = (s.handOn e).gates := by
  rw [State.release_eq_setPort, State.setPort_gates]

theorem State.release_masks (e : MergeEntry) (s : State) :
    (s.release e).watch.masks = s.watch.masks := by
  obtain ⟨es, hw⟩ := State.handOn_watch e s
  rw [State.release_eq_setPort, State.setPort_watch, hw, Watch.takeGroup_masks]

theorem Watch.eq_of_masks {v w : Watch} (h : w.masks = v.masks) :
    w = { v with counters := w.counters, notices := w.notices } := by
  rw [← h]

/-- The parts of the state that a release reaches. -/
theorem State.release_frame (e : MergeEntry) (s : State) : s.release e = { s with
    intake := { s.intake with window := (s.release e).intake.window
                              admission := (s.release e).intake.admission }
    gates := { s.gates with deferred := (s.release e).gates.deferred
                            tallies := (s.release e).gates.tallies }
    watch := { s.watch with counters := (s.release e).watch.counters
                            notices := (s.release e).watch.notices } } := by
  rw [← Watch.eq_of_masks (State.release_masks e s), State.release_window]
  exact State.setPort_frame (State.handOn_frame e s) (State.release_eq_setPort e s)

/-! ### One grant -/

theorem State.deferredOpen_iff (d : DeferredFrame) :
    s.deferredOpen d = true ↔ s.gates.state d.district = .opened := by
  simp [State.deferredOpen]

/-- The deferred frame that moves is the earliest of an OPEN district; the others keep their
order. -/
theorem State.openDeferred_eq_some {d : DeferredFrame} (h : s.openDeferred = some d) :
    ∃ before after, s.gates.deferred = before ++ d :: after ∧
      (∀ x ∈ before, s.gates.state x.district ≠ .opened) ∧ s.gates.state d.district = .opened ∧
      s.gates.deferred.eraseP s.deferredOpen = before ++ after := by
  obtain ⟨hd, before, after, hl, hb⟩ := List.find?_eq_some_iff_append.1 h
  have shut : ∀ x ∈ before, ¬ s.deferredOpen x = true := fun x hx => by simpa using hb x hx
  refine ⟨before, after, hl, fun x hx => mt (State.deferredOpen_iff x).2 (shut x hx),
    (State.deferredOpen_iff d).1 hd, ?_⟩
  rw [hl, List.eraseP_append_right _ shut, List.eraseP_cons_of_pos hd]

theorem State.openDeferred_eq_none (h : s.openDeferred = none) :
    ∀ d ∈ s.gates.deferred, s.gates.state d.district ≠ .opened := fun d hd =>
  mt (State.deferredOpen_iff d).2 (List.find?_eq_none.1 h d hd)

/-- A place is given as R15 says. -/
theorem grantPlace_placeGiven (hwf : s.gates.tallies.wf = true) (hk : s.KeysDistinct)
    (h : s.grantPlace = some t) : PlaceGiven s t := by
  obtain ⟨hp, ⟨d, hd, rfl⟩ | ⟨hd, e, he, rfl⟩⟩ := State.grantPlace_cases h
  all_goals refine ⟨of_decide_eq_true hp, ?_⟩
  · obtain ⟨before, after, hl, hb, ho, her⟩ := State.openDeferred_eq_some hd
    refine .inl ⟨before, d, after, hl, hb, ho, ?_⟩
    rw [State.moveDeferred, her]
    rfl
  · obtain ⟨before, after, hw, hheld, hb, ha⟩ := firstHeld_spec he
    rw [State.release_entry hw hk]
    exact .inr ⟨State.openDeferred_eq_none hd, before, e, after, hw, hheld, hb, ha,
      State.setPort_frame (State.handOn_frame _ s) rfl, released_setPort hwf ..⟩

theorem grantPlace_tallies_wf (hwf : s.gates.tallies.wf = true) (h : s.grantPlace = some t) :
    t.gates.tallies.wf = true := by
  obtain ⟨-, ⟨d, -, rfl⟩ | ⟨-, e, -, rfl⟩⟩ := State.grantPlace_cases h
  · exact hwf
  · rw [State.release_gates]
    exact State.handOn_tallies_wf hwf e

theorem grantPlace_keysDistinct (hk : s.KeysDistinct) (h : s.grantPlace = some t) :
    t.KeysDistinct := by
  obtain ⟨-, ⟨d, -, rfl⟩ | ⟨-, e, -, rfl⟩⟩ := State.grantPlace_cases h
  · exact hk
  · unfold State.KeysDistinct
    rw [State.release_window]
    exact hk.filter _

/-- A grant joins at most one frame to the admission queue, at its end. -/
theorem grantPlace_admission (h : s.grantPlace = some t) :
    t.intake.admission = s.intake.admission ∨
      ∃ f, t.intake.admission = s.intake.admission ++ [f] := by
  obtain ⟨-, ⟨d, -, rfl⟩ | ⟨-, e, -, rfl⟩⟩ := State.grantPlace_cases h
  · exact .inr ⟨_, rfl⟩
  · rw [State.release_admission]
    exact State.handOn_admission e s

/-- The parts of the state that the giving of places reaches. -/
theorem grantPlace_frame (h : s.grantPlace = some t) : t = { s with
    intake := { s.intake with window := t.intake.window, admission := t.intake.admission }
    gates := { s.gates with deferred := t.gates.deferred, tallies := t.gates.tallies }
    watch := { s.watch with counters := t.watch.counters, notices := t.watch.notices } } := by
  obtain ⟨-, ⟨d, -, rfl⟩ | ⟨-, e, -, rfl⟩⟩ := State.grantPlace_cases h
  · rfl
  · exact State.release_frame e s

/-- A grant takes a deferred frame out, or a merge entry out and at most one deferred frame in. -/
theorem grantPlace_grantBound (h : s.grantPlace = some t) : t.grantBound < s.grantBound := by
  obtain ⟨-, ⟨d, hd, rfl⟩ | ⟨-, e, he, rfl⟩⟩ := State.grantPlace_cases h
  · obtain ⟨before, after, hl, -, -, her⟩ := State.openDeferred_eq_some hd
    show (s.gates.deferred.eraseP s.deferredOpen).length + 2 * s.intake.window.length < _
    rw [State.grantBound, her, hl]
    simp only [List.length_append, List.length_cons]
    omega
  · have hw := State.release_window_length (firstHeld_mem he).1
    have hd : (s.release e).gates.deferred.length ≤ s.gates.deferred.length + 1 := by
      rw [State.release_gates]
      rcases State.handOn_deferred e s with hd | ⟨-, x, hd⟩ <;> rw [hd]
      · exact Nat.le_succ _
      · exact (List.length_append ..).le
    simp only [State.grantBound]
    omega

/-! ### All the grants -/

/-- With enough grants allowed, the giving of places stops only where no grant is left. -/
theorem grantPlaces_stops {n : Nat} (hn : s.grantBound ≤ n) :
    (grantPlaces n s).grantPlace = none := by
  induction n generalizing s with
  | zero =>
    show s.grantPlace = none
    cases hg : s.grantPlace with
    | none => rfl
    | some t => exact absurd (grantPlace_grantBound hg) (by omega)
  | succ n ih =>
    unfold grantPlaces
    split
    · next t hg => exact ih (Nat.le_of_lt_succ ((grantPlace_grantBound hg).trans_le hn))
    · assumption

theorem State.givePlaces_stops (s : State) : s.givePlaces.grantPlace = none :=
  grantPlaces_stops (Nat.le_refl _)

/-- Where no grant is left, no place is free or no candidate waits. -/
theorem grantPlace_eq_none (h : s.grantPlace = none) : 16 ≤ s.intake.admission.length ∨
    (s.openDeferred = none ∧ ∀ e ∈ s.intake.window, e.held = false) := by
  unfold State.grantPlace at h
  split at h
  · split at h
    · cases h
    · next hd =>
      split at h
      · cases h
      · next hf => exact .inr ⟨hd, firstHeld_eq_none hf⟩
  · next hp => exact .inl (Nat.le_of_not_lt fun hl => hp (decide_eq_true hl))

/-- The giving of places begins with the first grant. -/
theorem State.givePlaces_of_grant (h : s.grantPlace = some t) :
    ∃ n, s.givePlaces = grantPlaces n t := by
  obtain ⟨n, hn⟩ := Nat.exists_eq_succ_of_ne_zero
    (Nat.ne_of_gt ((Nat.zero_le _).trans_lt (grantPlace_grantBound h)))
  refine ⟨n, ?_⟩
  unfold State.givePlaces
  rw [hn, grantPlaces, h]

/-- What the first grant joins stands behind the frames already admitted, before all others. -/
theorem State.givePlaces_admission (h : s.grantPlace = some t) {f : Frame}
    (ht : t.intake.admission = s.intake.admission ++ [f]) :
    ∃ more, s.givePlaces.intake.admission = s.intake.admission ++ f :: more := by
  obtain ⟨n, hn⟩ := State.givePlaces_of_grant h
  obtain ⟨more, hm⟩ := grantPlaces_keeps (P := fun u => t.intake.admission <+: u.intake.admission)
    (fun u v hg hu => by
      rcases grantPlace_admission hg with ha | ⟨x, ha⟩ <;> rw [ha]
      · exact hu
      · exact hu.trans (List.prefix_append ..)) n t (List.prefix_refl _)
  exact ⟨more, by rw [hn, ← hm, ht, List.append_assoc]; rfl⟩

theorem grantPlace_deferred {d : DeferredFrame} (ha : s.intake.admission.length < 16)
    (hd : s.openDeferred = some d) : s.grantPlace = some (s.moveDeferred d) := by
  unfold State.grantPlace
  rw [if_pos (show s.placeFree = true from decide_eq_true ha), hd]

theorem grantPlace_held {e : MergeEntry} (ha : s.intake.admission.length < 16)
    (hd : s.openDeferred = none) (he : firstHeld s.intake.window = some e) :
    s.grantPlace = some (s.release e) := by
  unfold State.grantPlace
  rw [if_pos (show s.placeFree = true from decide_eq_true ha), hd, he]

/-- A released frame that meets an OPEN gate is admitted (R101). -/
theorem State.release_admitted {e : MergeEntry} {bin d : Nat}
    (ht : s.translate (sensorOf e.payload) = .found bin d) (hg : s.gates.state d = .opened) :
    (s.release e).intake.admission = s.intake.admission ++
      [{ payload := e.payload, bin := bin, arrival := e.openedAt / 1000 }] := by
  rw [State.release_admission, State.handOn_of_found ht, State.gateTest, if_pos hg]
  rfl

/-- Nothing joins a full admission queue (R12). -/
theorem grantPlace_admission_le (ha : s.intake.admission.length ≤ 16)
    (h : s.grantPlace = some t) : t.intake.admission.length ≤ 16 := by
  have hp : s.intake.admission.length < 16 := of_decide_eq_true (State.grantPlace_cases h).1
  rcases grantPlace_admission h with hj | ⟨f, hj⟩ <;> rw [hj]
  · exact ha
  · rw [List.length_append]
    exact hp

theorem State.givePlaces_frame (s : State) : s.givePlaces = { s with
    intake := { s.intake with window := s.givePlaces.intake.window
                              admission := s.givePlaces.intake.admission }
    gates := { s.gates with deferred := s.givePlaces.gates.deferred
                            tallies := s.givePlaces.gates.tallies }
    watch := { s.watch with counters := s.givePlaces.watch.counters
                            notices := s.givePlaces.watch.notices } } := by
  refine State.givePlaces_keeps (P := fun t => t = { s with
    intake := { s.intake with window := t.intake.window, admission := t.intake.admission }
    gates := { s.gates with deferred := t.gates.deferred, tallies := t.gates.tallies }
    watch := { s.watch with counters := t.watch.counters, notices := t.watch.notices } })
    (fun u v hg hu => ?_) rfl
  rw [grantPlace_frame hg, hu]

/-- Each place given one after another is given as R15 says. -/
theorem State.givePlaces_placesGiven (hwf : s.gates.tallies.wf = true) (hk : s.KeysDistinct) :
    Relation.ReflTransGen PlaceGiven s s.givePlaces := by
  have kept := State.givePlaces_keeps (s := s) (P := fun t => t.gates.tallies.wf = true ∧
      t.KeysDistinct ∧ Relation.ReflTransGen PlaceGiven s t)
    (fun u v hg ⟨hu, hku, hr⟩ => ⟨grantPlace_tallies_wf hu hg, grantPlace_keysDistinct hku hg,
      hr.tail (grantPlace_placeGiven hu hku hg)⟩) ⟨hwf, hk, .refl⟩
  exact kept.2.2

/-- Settles O12: the grants are made until none is left, each as R15 says. -/
theorem admissionPlacesAreGivenUntilNoneIsLeft :
    Obligations.AdmissionPlacesAreGivenUntilNoneIsLeft := by
  intro s hr
  have given : exec .admissionPlaceGrant s = .next s.givePlaces :=
    congrArg Host.Outcome.next (State.whenRunning_of_running hr)
  exact ⟨s.givePlaces, given, State.givePlaces_frame s, grantPlace_eq_none s.givePlaces_stops,
    State.givePlaces_keeps (P := fun t => t.intake.admission.length ≤ 16)
      fun _ _ hg ha => grantPlace_admission_le ha hg,
    fun d ha hd => State.givePlaces_admission (grantPlace_deferred ha hd) rfl,
    fun e bin d ha hd he ht hg =>
      State.givePlaces_admission (grantPlace_held ha hd he) (State.release_admitted ht hg),
    fun hcan hk => State.givePlaces_placesGiven (Table.wf_of_canonical hcan.tallies) hk⟩

end Sys2Proof.Machine
end

section
/-! PROOFS. The start of an accepted frame (R13, R36, R71), and the invariants of the state after
reset. -/

namespace Sys2Proof.Machine

variable {s : State}

/-! ### The start of an estimate -/

theorem State.eligible_iff {f : Frame} :
    s.eligible f = true ↔ ∀ e ∈ s.slots, e.frame.bin ≠ f.bin := by
  simp [State.eligible, State.binInFlight]

/-- ESTIMATE_START takes the oldest frame whose bin is not in flight (R13). -/
theorem exec_estimateStart {before after : List Frame} {f : Frame} (hr : s.phase = .running)
    (hl : s.slots.length < 4) (hq : s.intake.admission = before ++ f :: after)
    (hb : ∀ g ∈ before, ∃ e ∈ s.slots, e.frame.bin = g.bin)
    (hf : ∀ e ∈ s.slots, e.frame.bin ≠ f.bin) :
    exec .estimateStart s = .next (State.startFrame f
      { s with intake := { s.intake with admission := before ++ after } }) := by
  have free : s.eligible f = true := State.eligible_iff.2 hf
  have waits : ∀ g ∈ before, ¬ s.eligible g = true := fun g hg he => by
    obtain ⟨e, hm, hbin⟩ := hb g hg
    exact State.eligible_iff.1 he e hm hbin
  have next : s.nextFrame = some f := by
    unfold State.nextFrame
    rw [if_pos (show s.slots.length < slotCount from hl), hq]
    exact List.find?_eq_some_iff_append.2
      ⟨free, before, after, rfl, fun g hg => by simpa using waits g hg⟩
  have left : s.intake.admission.eraseP s.eligible = before ++ after := by
    rw [hq, List.eraseP_append_right _ waits, List.eraseP_cons_of_pos free]
  show execEstimateStart s = _
  unfold execEstimateStart
  rw [State.whenRunning_of_running hr, next]
  dsimp only
  rw [State.takeAdmitted, left]

/-- Settles O13: each of the three reasons of R36 to accept a frame gives it the slot. -/
theorem acceptedFrameTakesASlot : Obligations.AcceptedFrameTakesASlot := by
  intro s before after f a gap hr hl hq hb hf ha hgap
  have accepted : judge (kindOf f.payload) a.lastCount (countOf f.payload) = .accepted gap := by
    unfold judge
    rcases hgap with ⟨hk, rfl⟩ | ⟨hk, hc, rfl⟩ | ⟨l, hk, hc, h1, h2, rfl⟩
    · rw [if_pos hk]
    · rw [if_neg hk, hc]
    · rw [if_neg hk, hc]
      dsimp only
      rw [if_neg (by omega), if_neg (by omega)]
      by_cases hd : (countOf f.payload - l).toNat = 1
      · rw [if_pos hd, if_neg (by omega)]
      · rw [if_neg hd, if_pos (by omega)]
  have ha' : State.assigned { s with intake := { s.intake with admission := before ++ after } }
      f.bin = some a := ha
  rw [exec_estimateStart hr hl hq hb hf, State.startFrame, ha']
  dsimp only
  rw [accepted]
  rfl

/-! ### The state after reset -/

theorem reset_canonical : State.reset.Canonical where
  prefixes := rfl
  devices := rfl
  records := rfl
  calibration := rfl
  profiles := rfl
  gates := rfl
  inFlight := rfl
  tallies := rfl
  masks := rfl
  counters := rfl
  authority := rfl

theorem reset_gatesSound : State.reset.GatesSound := by
  refine fun _ => ⟨fun h => ?_, ?_⟩
  · cases h
  · rintro ⟨_, h, -⟩
    cases h

theorem reset_calibrationSound : State.reset.CalibrationSound where
  offset b a h := by cases h
  active b a h := by cases h
  learning b a h := by cases h
  range b v h := by cases h

theorem reset_translationSound : State.reset.TranslationSound where
  segments p seg h := by cases h
  entries e m h := by cases h
  named e m h := by cases h
  mapped b e h := by cases h

theorem reset_profilesSound : State.reset.ProfilesSound where
  fields n p h := by cases h
  named b a h := by cases h
  districts b a h := by cases h

theorem factorySettings_inRange : factorySettings.InRange := by
  constructor <;> decide

/-- Settles O58: the tables and the queues are empty, and the factory settings lie in range. -/
theorem resetMeetsEveryInvariant : Obligations.ResetMeetsEveryInvariant :=
  ⟨reset_canonical, State.QueuesSound.reset.bounds, State.QueuesSound.reset.keys,
    ⟨List.nodup_nil, fun _ => rfl⟩, reset_gatesSound, fun _ h => (by cases h),
    List.forall_mem_nil _, reset_calibrationSound,
    ⟨List.nodup_nil, List.Pairwise.nil, List.forall_mem_nil _⟩, reset_translationSound,
    reset_profilesSound, ⟨fun _ => ⟨rfl, rfl⟩, fun h => by cases h⟩, factorySettings_inRange⟩

end Sys2Proof.Machine
end

section
/-! PROOFS. What of the translation tables, the bin records and the profiles each operation leaves:
all of it, or all but what a completion or a sweep writes into an assigned record. -/

namespace Sys2Proof.Machine

variable {s t u : State}

/-! ### The tables as one value -/

/-- The translation tables, the bin records and the profiles: what the invariants of the tables
read. -/
def State.tables (s : State) : Translation × Table BinRecord × Table Profile :=
  (s.translation, s.bins.records, s.profiles)

@[simp] theorem State.tables_raiseGroup (es : List Event) :
    (s.raiseGroup es).tables = s.tables := rfl
@[simp] theorem State.tables_endFrame (c : WatchClass) (row : Nat) (bin : Option Nat)
    (p : List Byte) (o : OutcomeCode) : (s.endFrame c row bin p o).tables = s.tables := rfl
@[simp] theorem State.tables_setWindow (w : List MergeEntry) :
    (s.setWindow w).tables = s.tables := rfl
@[simp] theorem State.tables_vacate (e : Estimate) : (s.vacate e).tables = s.tables := rfl
@[simp] theorem State.tables_answer (r : Request) (x : Result) (l : List Contents) :
    (s.answer r x l).tables = s.tables := rfl

@[simp] theorem State.tables_tallyCompletion (row : Nat) (l : List FlagDetail) :
    (s.tallyCompletion row l).tables = s.tables := by
  unfold State.tallyCompletion
  split <;> rfl

/-! ### Intake and admission -/

@[simp] theorem State.tables_release (e : MergeEntry) : (s.release e).tables = s.tables := by
  rw [State.release_frame]
  rfl

@[simp] theorem State.tables_givePlaces : s.givePlaces.tables = s.tables := by
  rw [State.givePlaces_frame]
  rfl

@[simp] theorem State.tables_expire (e : MergeEntry) : (s.expire e).tables = s.tables := by
  unfold State.expire
  split <;> simp

@[simp] theorem State.tables_openEntry (q : Nat) (p : List Byte) :
    (s.openEntry q p).tables = s.tables := by
  unfold State.openEntry
  dsimp only
  split <;> simp

@[simp] theorem State.tables_openFull (q : Nat) (p : List Byte) :
    (s.openFull q p).tables = s.tables := by
  unfold State.openFull
  split
  · simp
  · split <;> simp

@[simp] theorem State.tables_intoWindow (q : Nat) (p : List Byte) :
    (s.intoWindow q p).tables = s.tables := by
  unfold State.intoWindow
  split
  · rfl
  · split <;> simp

@[simp] theorem State.tables_takeFrame (chain : Nat) (f : ChainFrame) :
    (s.takeFrame chain f).tables = s.tables := by
  unfold State.takeFrame
  dsimp only
  split
  · rfl
  · rw [State.tables_intoWindow]
    rfl

@[simp] theorem State.tables_startFrame (f : Frame) : (s.startFrame f).tables = s.tables := by
  unfold State.startFrame
  split
  · rfl
  · split <;> rfl

/-! ### Requests and the link -/

@[simp] theorem State.tables_arrive (r : Request) : (s.arrive r).tables = s.tables := by
  unfold State.arrive
  split
  · rfl
  · split <;> rfl

@[simp] theorem State.tables_grant (c : Candidate) : (s.grant c).tables = s.tables := by
  cases c with
  | response =>
    show s.grantResponse.tables = s.tables
    unfold State.grantResponse
    split <;> rfl
  | start | forced | notice | scheduled | catchUp => rfl

@[simp] theorem State.tables_arbitrate : s.arbitrate.tables = s.tables := by
  unfold State.arbitrate
  split <;> simp

@[simp] theorem State.tables_grantIf (cs : List Candidate) :
    (s.grantIf cs).tables = s.tables := by
  unfold State.grantIf
  split
  · split <;> simp
  · rfl

theorem State.tables_whenRunning {f : State → State} (h : (f s).tables = s.tables) :
    (s.whenRunning f).tables = s.tables := by
  unfold State.whenRunning
  split
  · exact h
  · rfl

theorem State.tables_serve {mine : Request → Bool} {check : State → Request → Option Result}
    {carry : Request → State → State} (h : ∀ r, (carry r s).tables = s.tables) :
    (s.serve mine check carry).tables = s.tables := by
  rcases State.serve_cases mine check carry s with hs | ⟨r, -, -, ⟨x, -, hs⟩ | ⟨-, hs⟩⟩ <;> rw [hs]
  · rfl
  · exact h r

@[simp] theorem State.tables_tick : s.tick.tables = s.tables := by
  unfold State.tick
  split <;> rfl

/-! ### What a completion and a sweep keep of the tables -/

/-- What LOAD BIN gives an assigned record (R46). -/
def Assigned.placing (a : Assigned) : Nat × Nat × Nat := (a.district, a.profile, a.generation)

/-- From `s` to `t` the translation tables and the profiles stay, and so do each bin's mapped device
entry, whether it is assigned, and its district, profile and generation. -/
structure State.KeepsAssignments (s t : State) : Prop where
  translation : t.translation = s.translation
  profiles : t.profiles = s.profiles
  records : s.bins.records.wf = true → t.bins.records.wf = true
  mapped : s.bins.records.wf = true → ∀ b, (t.record b).mapped = (s.record b).mapped
  placing : s.bins.records.wf = true → ∀ b,
    (t.assigned b).map Assigned.placing = (s.assigned b).map Assigned.placing

namespace State.KeepsAssignments

theorem of_tables (h : t.tables = s.tables) : s.KeepsAssignments t := by
  obtain ⟨ht, hr, hp⟩ : t.translation = s.translation ∧ t.bins.records = s.bins.records ∧
      t.profiles = s.profiles := by simpa [State.tables] using h
  have record : ∀ b, t.record b = s.record b := fun b => by simp only [State.record, hr]
  exact ⟨ht, hp, fun hw => hr ▸ hw, fun _ b => by rw [record],
    fun _ b => by simp only [State.assigned, record]⟩

theorem refl (s : State) : s.KeepsAssignments s := of_tables rfl

theorem trans (h : s.KeepsAssignments t) (h' : t.KeepsAssignments u) : s.KeepsAssignments u where
  translation := h'.translation.trans h.translation
  profiles := h'.profiles.trans h.profiles
  records hw := h'.records (h.records hw)
  mapped hw b := (h'.mapped (h.records hw) b).trans (h.mapped hw b)
  placing hw b := (h'.placing (h.records hw) b).trans (h.placing hw b)

theorem foldl {α : Type} {f : State → α → State}
    (step : ∀ (s : State) (a : α), s.KeepsAssignments (f s a)) (l : List α) (s : State) :
    s.KeepsAssignments (l.foldl f s) := by
  induction l generalizing s with
  | nil => exact refl s
  | cons a rest ih => exact (step s a).trans (ih (f s a))

/-- A record written with its mapped device entry and its placing as they were. -/
theorem setRecord {b : Nat} {r : BinRecord} (hm : r.mapped = (s.record b).mapped)
    (hp : r.assigned.map Assigned.placing = (s.assigned b).map Assigned.placing) :
    s.KeepsAssignments (s.setRecord b r) where
  translation := rfl
  profiles := rfl
  records hw := Table.wf_set hw ..
  mapped hw i := by
    rw [State.record_setRecord hw]
    split
    · next hi => rw [hi, hm]
    · rfl
  placing hw i := by
    unfold State.assigned
    rw [State.record_setRecord hw]
    split
    · next hi => rw [hi, hp, State.assigned]
    · rfl

theorem setAssigned {b : Nat} {a a' : Assigned} (ha : s.assigned b = some a)
    (hp : a'.placing = a.placing) : s.KeepsAssignments (s.setAssigned b (some a')) :=
  setRecord rfl (by rw [ha, Option.map_some, Option.map_some, hp])

theorem setUnqueued (b : Nat) (f : Bool) : s.KeepsAssignments (s.setUnqueued b f) :=
  setRecord rfl rfl

theorem setDue (q : List DueEntry) : s.KeepsAssignments { s with due := q } := of_tables rfl

theorem placeDue (e : DueEntry) (q : List DueEntry) : s.KeepsAssignments (s.placeDue e q) :=
  (setDue _).trans (setUnqueued _ _)

theorem handRemoval (b : Nat) : s.KeepsAssignments (s.handRemoval b) :=
  (setDue _).trans (setUnqueued _ _)

theorem handPrediction (e : DueEntry) : s.KeepsAssignments (s.handPrediction e) := by
  rcases State.handPrediction_cases e s with ⟨-, hp⟩ | ⟨_, -, -, -, hp⟩ | ⟨_, -, -, -, hp⟩ <;>
    rw [hp]
  · exact placeDue e _
  · exact (setUnqueued _ _).trans (placeDue e _)
  · exact (setDue _).trans (setUnqueued _ _)

theorem handDue (b d : Nat) (x : DueUpdate) : s.KeepsAssignments (s.handDue b d x) := by
  cases x with
  | nothing => exact refl s
  | removal => exact handRemoval b
  | prediction due isOver coarse => exact handPrediction _

end State.KeepsAssignments

/-! ### A completion keeps district, profile and generation (R72) -/

theorem Assigned.placing_byCalibration (a : Assigned) (c : Option Int) :
    (a.byCalibration c).placing = a.placing := by
  cases c <;> rfl

theorem placing_leaveSilent (learned : Option Int) (a : Assigned) :
    (leaveSilent learned a).placing = a.placing := by
  unfold leaveSilent
  split
  · exact Assigned.placing_byCalibration _ learned
  · rfl

theorem placing_stage5 (p : Profile) (e : Echo) (fill arrival : Nat) (a : Assigned) :
    (stage5 p e fill arrival a).placing = a.placing := by
  unfold stage5
  split <;> rfl

theorem placing_activeReading (p : Profile) (env : Surroundings) (e : Echo) (clamped : Bool)
    (arrival : Nat) (a : Assigned) (learned : Option Int) :
    (activeReading p env e clamped arrival a learned).record.placing = a.placing :=
  placing_stage5 p e (mapFill p e.surf) arrival (stage4 p e.surf a)

theorem placing_learningReading (p : Profile) (env : Surroundings) (e : Echo) (clamped : Bool)
    (arrival : Nat) (a : Assigned) (learned : Option Int) :
    (learningReading p env e clamped arrival a learned).record.placing = a.placing := by
  unfold learningReading
  split <;> rfl

theorem placing_applyReading (p : Profile) (env : Surroundings) (payload : List Byte)
    (arrival : Nat) (a : Assigned) (learned : Option Int) :
    (applyReading p env payload arrival a learned).record.placing = a.placing := by
  unfold applyReading
  dsimp only
  split
  · split
    · rfl
    · exact placing_learningReading ..
  · split
    · rfl
    · exact placing_activeReading ..

theorem placing_applyKind (p : Profile) (env : Surroundings) (payload : List Byte)
    (arrival : Nat) (a : Assigned) (learned : Option Int) :
    (applyKind p env payload arrival a learned).record.placing = a.placing := by
  unfold applyKind
  split
  · exact placing_applyReading ..
  · rfl
  · rfl

theorem placing_completion (p : Profile) (env : Surroundings) (payload : List Byte)
    (arrival : Nat) (gap : Option Nat) (a : Assigned) (learned : Option Int) :
    (completion p env payload arrival gap a learned).record.placing = a.placing :=
  (placing_applyKind ..).trans (placing_leaveSilent ..)

namespace State.KeepsAssignments

theorem applyCompletion {e : Estimate} {c : Completion} {a : Assigned}
    (ha : s.assigned e.frame.bin = some a) (hc : c.record.placing = a.placing) :
    s.KeepsAssignments (s.applyCompletion e c) := by
  have cleared : ∀ v : State, v.KeepsAssignments
      (if c.clearSilent then v.handSilent e.frame.bin false else v) := by
    intro v
    split
    · exact of_tables rfl
    · exact refl v
  have written : s.KeepsAssignments
      ((s.setAssigned e.frame.bin (some c.record)).setLearned e.frame.bin c.learned) :=
    (setAssigned ha hc).trans (of_tables rfl)
  have handed := (written.trans (cleared _)).trans (handDue e.frame.bin e.district c.due)
  refine handed.trans (of_tables ?_)
  rw [State.applyCompletion, tables_vacate, tables_raiseGroup, tables_tallyCompletion]

theorem complete (e : Estimate) : s.KeepsAssignments (s.complete e) := by
  unfold State.complete
  split
  · next a ha => exact applyCompletion ha (placing_completion ..)
  · exact of_tables rfl

theorem makeSilent {b : Nat} {a : Assigned} (ha : s.assigned b = some a) :
    s.KeepsAssignments (s.makeSilent b a) := by
  have written : s.KeepsAssignments
      (s.setAssigned b (some { a with state := .silent, samples := [] })) := setAssigned ha rfl
  refine written.trans (of_tables ?_)
  unfold State.makeSilent
  dsimp only
  split <;> rfl

theorem sweepBin (b : Nat) : s.KeepsAssignments (s.sweepBin b) := by
  unfold State.sweepBin
  split
  · next a ha =>
    split
    · exact makeSilent ha
    · exact refl s
  · exact refl s

theorem sweep : s.KeepsAssignments s.sweep := foldl (fun _ b => sweepBin b) _ s

end State.KeepsAssignments

end Sys2Proof.Machine
end

section
/-! PROOFS. No command but the changes, their application and power-on reaches the translation
tables, the profiles or what a bin is assigned to. -/

namespace Sys2Proof.Machine

open Sys2Proof.Statements

variable {s : State}

/-! ### The uplink commands and the timers -/

theorem execIntakeFrameTake_tables (c0 c1 c2 c3 : Option ChainFrame) :
    Keeps (fun t => t.tables = s.tables) (execIntakeFrameTake c0 c1 c2 c3 s) := by
  refine keeps_next (State.tables_whenRunning ?_)
  split
  · exact State.tables_takeFrame ..
  · rfl

theorem execMergeEntryExpiry_tables (sensor : SensorId) (count : FrameCount) :
    Keeps (fun t => t.tables = s.tables) (execMergeEntryExpiry sensor count s) := by
  refine keeps_next (State.tables_whenRunning ?_)
  split
  · split
    · exact State.tables_expire _
    · rfl
  · rfl

theorem execEstimateStart_tables :
    Keeps (fun t => t.tables = s.tables) (execEstimateStart s) := by
  refine keeps_next (State.tables_whenRunning ?_)
  split
  · exact State.tables_startFrame _
  · rfl

theorem execManagementFrame_tables (body : List Byte) :
    Keeps (fun t => t.tables = s.tables) (execManagementFrame body s) := by
  refine keeps_next (State.tables_whenRunning ?_)
  split
  · exact State.tables_arrive _
  · rfl

theorem execChangeTimeout_tables :
    Keeps (fun t => t.tables = s.tables) (execChangeTimeout s) := by
  refine keeps_next (State.tables_whenRunning ?_)
  split
  · split
    · exact State.tables_givePlaces
    · rfl
  · rfl

theorem execTransmissionEnd_tables :
    Keeps (fun t => t.tables = s.tables) (execTransmissionEnd s) := by
  refine keeps_next (State.tables_whenRunning ?_)
  dsimp only
  split
  · exact State.tables_arbitrate
  · rfl

theorem execGo_tables : Keeps (fun t => t.tables = s.tables) (execGo s) := by
  refine keeps_next (State.tables_whenRunning ?_)
  split
  · exact State.tables_arbitrate
  · rfl

theorem execNoticeHoldExpiry_tables :
    Keeps (fun t => t.tables = s.tables) (execNoticeHoldExpiry s) := by
  refine keeps_next (State.tables_whenRunning ?_)
  split
  · exact State.tables_arbitrate
  · rfl

theorem execSummaryTimerExpiry_tables :
    Keeps (fun t => t.tables = s.tables) (execSummaryTimerExpiry s) := by
  refine keeps_next (State.tables_whenRunning ?_)
  dsimp only
  split
  · split <;> rfl
  · rfl

theorem execBeaconLossExpiry_tables :
    Keeps (fun t => t.tables = s.tables) (execBeaconLossExpiry s) := by
  refine keeps_next (State.tables_whenRunning ?_)
  split <;> rfl

theorem execInboundFrameDiscarded_tables (bytes : List Byte) :
    Keeps (fun t => t.tables = s.tables) (execInboundFrameDiscarded bytes s) := by
  refine keeps_next (State.tables_whenRunning ?_)
  split <;> rfl

/-! ### Requests that change no table, the store, power and starts -/

theorem execLoadWatchMask_tables :
    Keeps (fun t => t.tables = s.tables) (execLoadWatchMask s) := by
  refine keeps_next (State.tables_serve fun r => ?_)
  split <;> rfl

theorem State.tables_setWatch (w : Watch) : State.tables { s with watch := w } = s.tables := rfl

theorem execReadCountersReset_tables :
    Keeps (fun t => t.tables = s.tables) (execReadCountersReset s) :=
  keeps_next (State.tables_serve fun _ =>
    (State.tables_answer ..).trans (State.tables_setWatch _))

theorem execStoreWriteBegin_tables :
    Keeps (fun t => t.tables = s.tables) (execStoreWriteBegin s) := by
  refine keeps_next ?_
  split <;> rfl

theorem execStoreWriteEnd_tables :
    Keeps (fun t => t.tables = s.tables) (execStoreWriteEnd s) := by
  refine keeps_next ?_
  split <;> rfl

theorem execPowerLoss_tables : Keeps (fun t => t.tables = s.tables) (execPowerLoss s) := by
  refine keeps_next ?_
  split <;> rfl

theorem execResetLineAssert_tables :
    Keeps (fun t => t.tables = s.tables) (execResetLineAssert s) := by
  refine keeps_next ?_
  split
  · rfl
  · split <;> rfl

theorem execStartComplete_tables :
    Keeps (fun t => t.tables = s.tables) (execStartComplete s) := by
  refine keeps_next ?_
  split
  · split <;> rfl
  · rfl

/-- A read is answered from the tables and changes none (R30, R31, R53, R67). -/
theorem serve_report_tables {mine : Request → Bool} {check : State → Request → Option Result}
    {of : Request → State → Contents} :
    Keeps (fun t => t.tables = s.tables) (.next (s.serve mine check (State.report of))) :=
  keeps_next (State.tables_serve fun _ => rfl)

theorem whenRunning_grantIf_tables (cs : List Candidate) :
    Keeps (fun t => t.tables = s.tables) (.next (s.whenRunning (State.grantIf cs))) :=
  keeps_next (State.tables_whenRunning (State.tables_grantIf cs))

/-! ### The two commands that write assigned records -/

theorem State.KeepsAssignments.whenRunning {f : State → State} (h : s.KeepsAssignments (f s)) :
    s.KeepsAssignments (s.whenRunning f) := by
  unfold State.whenRunning
  split
  · exact h
  · exact .refl s

theorem execEstimateCompletion_keepsAssignments (bin : Nat) :
    Keeps s.KeepsAssignments (execEstimateCompletion bin s) := by
  refine keeps_next (.whenRunning ?_)
  split
  · exact .complete _
  · exact .refl s

theorem execSilenceSweep_keepsAssignments :
    Keeps s.KeepsAssignments (execSilenceSweep s) := by
  refine keeps_next (.whenRunning ?_)
  dsimp only
  split
  · split
    · exact State.KeepsAssignments.sweep.trans (.of_tables rfl)
    · exact .refl s
  · exact .refl s

theorem Keeps.mono {P Q : State → Prop} {o : Host.Outcome State Fault Refusal} (h : Keeps P o)
    (hPQ : ∀ t, P t → Q t) : Keeps Q o := fun t ht => hPQ t (h t ht)

/-- A command that is neither a change of the tables nor power-on, an estimate's completion nor the
sweep leaves translation tables, records and profiles as they are. -/
theorem exec_tables (c : Instr) (hc : altersTables c = false) (hs : c ≠ .silenceSweep)
    (he : ∀ b, c ≠ .estimateCompletion b) : Keeps (fun t => t.tables = s.tables) (exec c s) := by
  cases c with
  | intakeFrameTake c0 c1 c2 c3 => exact execIntakeFrameTake_tables c0 c1 c2 c3
  | mergeEntryExpiry sensor count => exact execMergeEntryExpiry_tables sensor count
  | admissionPlaceGrant => exact keeps_next (State.tables_whenRunning State.tables_givePlaces)
  | estimateStart => exact execEstimateStart_tables
  | estimateCompletion bin => exact absurd rfl (he bin)
  | silenceSweep => exact absurd rfl hs
  | managementFrame body => exact execManagementFrame_tables body
  | timeBeacon v => exact keeps_next (State.tables_whenRunning rfl)
  | pause => exact keeps_next (State.tables_whenRunning rfl)
  | go => exact execGo_tables
  | readPrefix | readDeviceByEntry | readDeviceBySensor | readBin | readProfile | readOutcomes
  | readCounters | readAuthority | readConfig => exact serve_report_tables
  | requestDueList | resetCounters | loadAuthority | storeConfig | restart
  | unknownOp => exact keeps_next (State.tables_serve fun _ => rfl)
  | readCountersReset => exact execReadCountersReset_tables
  | loadWatchMask => exact execLoadWatchMask_tables
  | changeTimeout => exact execChangeTimeout_tables
  | transmissionEnd => exact execTransmissionEnd_tables
  | startGrant | responseGrant | noticeGrant | summaryGrant | catchUpSummary =>
    exact whenRunning_grantIf_tables _
  | noticeHoldExpiry => exact execNoticeHoldExpiry_tables
  | summaryTimerExpiry => exact execSummaryTimerExpiry_tables
  | beaconLossExpiry => exact execBeaconLossExpiry_tables
  | storeWriteBegin => exact execStoreWriteBegin_tables
  | storeWriteEnd => exact execStoreWriteEnd_tables
  | powerLoss => exact execPowerLoss_tables
  | resetLineAssert => exact execResetLineAssert_tables
  | resetLineRelease => exact keeps_next rfl
  | startComplete => exact execStartComplete_tables
  | inboundFrameDiscarded bytes => exact execInboundFrameDiscarded_tables bytes
  | loadPrefix | clearPrefix | loadDevice | clearDevice | loadBin | retireBin | clearDistrict
  | loadProfile | changeApplication | powerOn => cases hc

/-- Only the changes, their application and power-on alter the translation tables, the profiles and
the assignment of a bin (R161). -/
theorem exec_keepsAssignments (c : Instr) (hc : altersTables c = false) :
    Keeps s.KeepsAssignments (exec c s) := by
  by_cases hs : c = .silenceSweep
  · subst hs
    exact execSilenceSweep_keepsAssignments
  by_cases he : ∃ b, c = .estimateCompletion b
  · obtain ⟨b, rfl⟩ := he
    exact execEstimateCompletion_keepsAssignments b
  · exact (exec_tables c hc hs fun b hb => he ⟨b, hb⟩).mono fun _ => .of_tables

end Sys2Proof.Machine
end

section
/-! PROOFS. The invariant of the translation tables and the profiles (R19, R20, R56), and what the
changes of a device entry write (R28, R29). -/

namespace Sys2Proof.Machine

open Sys2Proof.Statements

variable {s t : State} {r : Request}

/-! ### The invariant -/

/-- The tables a change reaches are in canonical form and sound: the translation tables with their
backlinks, the profiles and the bins that name them. -/
structure State.TablesSound (s : State) : Prop where
  prefixesWf : s.translation.prefixes.wf = true
  devicesWf : s.translation.devices.wf = true
  recordsWf : s.bins.records.wf = true
  profilesWf : s.profiles.wf = true
  links : s.TranslationSound
  loaded : s.ProfilesSound

theorem State.Canonical.tablesSound (h : s.Canonical) (ht : s.TranslationSound)
    (hp : s.ProfilesSound) : s.TablesSound :=
  ⟨h.prefixes, h.devices, Table.wf_of_canonical h.records, h.profiles, ht, hp⟩

/-- A bin that is assigned after a step lay before it in the same district with the same profile. -/
theorem State.ProfilesSound.of_assigned (h : s.ProfilesSound) (hp : t.profiles = s.profiles)
    (ha : ∀ b a, t.assigned b = some a → ∃ a', s.assigned b = some a' ∧
      a'.district = a.district ∧ a'.profile = a.profile) : t.ProfilesSound where
  fields n p hn := h.fields n p (hp ▸ hn)
  named b a hb := by
    obtain ⟨a', hb', -, hpr⟩ := ha b a hb
    rw [hp, ← hpr]
    exact h.named b a' hb'
  districts b a hb := by
    obtain ⟨a', hb', hd, -⟩ := ha b a hb
    exact hd ▸ h.districts b a' hb'

/-- The translation tables are sound with any bin records that keep the backlinks. -/
theorem State.TranslationSound.of_mapped (h : s.TranslationSound)
    (ht : t.translation = s.translation)
    (hm : ∀ b, (t.record b).mapped = (s.record b).mapped) : t.TranslationSound := by
  have device : ∀ e, t.device e = s.device e := fun e => by simp only [State.device, ht]
  refine ⟨fun p seg hp => h.segments p seg (ht ▸ hp), fun e m he => ?_, fun e m he => ?_,
    fun b e hb => ?_⟩
  · exact h.entries e m (device e ▸ he)
  · rw [hm]
    exact h.named e m (device e ▸ he)
  · rw [device]
    exact h.mapped b e (hm b ▸ hb)

namespace State.TablesSound

theorem keepsAssignments (h : s.TablesSound) (k : s.KeepsAssignments t) : t.TablesSound where
  prefixesWf := k.translation ▸ h.prefixesWf
  devicesWf := k.translation ▸ h.devicesWf
  recordsWf := k.records h.recordsWf
  profilesWf := k.profiles ▸ h.profilesWf
  links := h.links.of_mapped k.translation (k.mapped h.recordsWf)
  loaded := h.loaded.of_assigned k.profiles fun b a hb => by
    have hp := k.placing h.recordsWf b
    rw [hb, Option.map_some, eq_comm, Option.map_eq_some_iff] at hp
    obtain ⟨a', ha', hp⟩ := hp
    simp only [Assigned.placing, Prod.mk.injEq] at hp
    exact ⟨a', ha', hp.1, hp.2.1⟩

theorem of_tables (h : s.TablesSound) (ht : t.tables = s.tables) : t.TablesSound :=
  h.keepsAssignments (.of_tables ht)

theorem reset : State.reset.TablesSound :=
  reset_canonical.tablesSound reset_translationSound reset_profilesSound

end State.TablesSound

/-! ### LOAD PREFIX and CLEAR PREFIX (R26, R27) -/

theorem State.TablesSound.setPrefix (h : s.TablesSound) {p : Nat} {seg : Option Segment}
    (hs : ∀ g, seg = some g → p < prefixCount ∧ 1 ≤ g.length ∧ g.base + g.length ≤ binCount) :
    (s.setPrefix p seg).TablesSound := by
  refine ⟨Table.wf_set h.prefixesWf .., h.devicesWf, h.recordsWf, h.profilesWf,
    ⟨fun i g hg => ?_, h.links.entries, h.links.named, h.links.mapped⟩,
    ⟨h.loaded.fields, h.loaded.named, h.loaded.districts⟩⟩
  rw [State.setPrefix_translation, Table.get_set h.prefixesWf] at hg
  split at hg
  · next hi => exact hi ▸ hs g hg
  · exact h.links.segments i g hg

/-! ### LOAD DEVICE and CLEAR DEVICE (R28, R29) -/

theorem State.device_setDevice (h : s.translation.devices.wf = true) (e i : Nat)
    (m : Option Mapping) : (s.setDevice e m).device i = if i = e then m else s.device i :=
  Table.get_set h e i m

theorem State.record_setMapped (h : s.bins.records.wf = true) (b i : Nat) (e : Option Nat) :
    (s.setMapped b e).record i =
      mappedTo (s.record i) (if i = b then e else (s.record i).mapped) := by
  unfold State.setMapped
  rw [State.record_setRecord h]
  split
  · next hi =>
    rw [hi]
    rfl
  · rfl

theorem State.otherBin_eq_some {e b old : Nat} :
    s.otherBin e b = some old ↔ old ≠ b ∧ ∃ m, s.device e = some m ∧ m.bin = old := by
  unfold State.otherBin
  cases s.device e with
  | none => simp
  | some m =>
    dsimp only
    split
    · next h => simp [h, eq_comm]
    · next h =>
      constructor
      · rintro ⟨⟩
        exact ⟨h, m, rfl, rfl⟩
      · rintro ⟨-, m', hm, rfl⟩
        cases hm
        rfl

theorem State.otherBin_eq_none {e b : Nat} :
    s.otherBin e b = none ↔ ∀ m, s.device e = some m → m.bin = b := by
  unfold State.otherBin
  cases s.device e with
  | none => simp
  | some m =>
    dsimp only
    split <;> simp_all

@[simp] theorem mappedTo_mapped (x : BinRecord) (e : Option Nat) : (mappedTo x e).mapped = e := rfl

@[simp] theorem mappedTo_assigned (x : BinRecord) (e : Option Nat) :
    (mappedTo x e).assigned = x.assigned := rfl

@[simp] theorem mappedTo_mappedTo (x : BinRecord) (e e' : Option Nat) :
    mappedTo (mappedTo x e) e' = mappedTo x e' := rfl

@[simp] theorem mappedTo_self (x : BinRecord) : mappedTo x x.mapped = x := rfl

@[simp] theorem State.record_setDevice (e i : Nat) (m : Option Mapping) :
    (s.setDevice e m).record i = s.record i := rfl

/-- LOAD DEVICE makes its entry and the backlinks follow (R28). -/
theorem applyLoadDevice_deviceSet (hd : s.translation.devices.wf = true)
    (hr : s.bins.records.wf = true) : DeviceSet s (applyLoadDevice r s).1 r
      (applyLoadDevice r s).2 (some { bin := r.arg16 2, generation := r.arg8 4 }) := by
  unfold applyLoadDevice
  dsimp only
  cases ho : s.otherBin (r.arg16 0) (r.arg16 2) with
  | none =>
    have named := State.otherBin_eq_none.1 ho
    refine ⟨rfl, rfl, rfl, rfl, rfl, rfl, fun i => State.device_setDevice hd .., fun i => ?_⟩
    refine (State.record_setMapped hr ..).trans ?_
    by_cases hi : i = r.arg16 2
    · simp [hi]
    · have other : (s.device (r.arg16 0)).any (fun k => k.bin == i) = false := by
        cases hm : s.device (r.arg16 0) with
        | none => rfl
        | some m => simpa [named m hm] using Ne.symm hi
      simp [hi, Ne.symm hi, other]
  | some old =>
    obtain ⟨hb, m, hm, hbin⟩ := State.otherBin_eq_some.1 ho
    refine ⟨rfl, rfl, rfl, rfl, rfl, rfl, fun i => State.device_setDevice hd .., fun i => ?_⟩
    refine (State.record_setMapped (Table.wf_set hr ..) ..).trans ?_
    dsimp only
    rw [State.record_setDevice, State.record_setMapped hr, mappedTo_mappedTo, mappedTo_mapped, hm]
    by_cases hi : i = r.arg16 2
    · simp [hi]
    · simp [hi, Ne.symm hi, hbin, eq_comm (a := old) (b := i)]

/-- CLEAR DEVICE makes its entry invalid and the backlink goes (R29). -/
theorem applyClearDevice_deviceSet (hd : s.translation.devices.wf = true)
    (hr : s.bins.records.wf = true) :
    DeviceSet s (applyClearDevice r s).1 r (applyClearDevice r s).2 none := by
  unfold applyClearDevice
  dsimp only
  cases hm : s.device (r.arg16 0) with
  | none =>
    exact ⟨by rw [hm], rfl, rfl, rfl, rfl, rfl, fun i => State.device_setDevice hd ..,
      fun i => by simp [hm]⟩
  | some m =>
    refine ⟨by rw [hm], rfl, rfl, rfl, rfl, rfl, fun i => State.device_setDevice hd ..,
      fun i => (State.record_setMapped hr ..).trans ?_⟩
    simp [hm, eq_comm (a := m.bin) (b := i)]

end Sys2Proof.Machine
end

section
/-! PROOFS. Every change of the tables that has passed its argument check keeps the translation
tables and the profiles sound (R28, R29, R46 to R51, R56, R58, R59, R65). -/

namespace Sys2Proof.Machine

open Sys2Proof.Statements

variable {s t : State} {r : Request}

theorem any_bin_iff {m : Option Mapping} {b : Nat} :
    m.any (fun k => k.bin == b) = true ↔ ∃ k, m = some k ∧ k.bin = b := by
  cases m <;> simp

/-- A device entry and its backlinks that change together keep every bin's mapped device entry the
one valid entry that names the bin, where no other entry names the new bin (R20, R28, R29). -/
theorem State.TranslationSound.deviceSet (h : s.TranslationSound) {x : Contents}
    {m : Option Mapping} (hd : DeviceSet s t r x m)
    (hm : ∀ k, m = some k → r.arg16 0 < binCount ∧ k.bin < binCount ∧
      ∀ e n, s.device e = some n → n.bin = k.bin → e = r.arg16 0) : t.TranslationSound := by
  obtain ⟨-, hp, -, -, -, -, device, record⟩ := hd
  refine ⟨fun p seg hs => h.segments p seg (hp ▸ hs), fun e n he => ?_, fun e n he => ?_,
    fun b e hb => ?_⟩
  · rw [device] at he
    split at he
    · next heq =>
      obtain ⟨hlt, hbin, -⟩ := hm n he
      exact ⟨heq ▸ hlt, hbin⟩
    · exact h.entries e n he
  · rw [device] at he
    rw [record, mappedTo_mapped]
    split at he
    · next heq => rw [if_pos (any_bin_iff.2 ⟨n, he, rfl⟩), heq]
    · next hne =>
      rw [if_neg fun ha => ?_, if_neg fun ha => ?_]
      · exact h.named e n he
      · obtain ⟨k, hk, hbin⟩ := any_bin_iff.1 ha
        have := h.named _ k hk
        rw [hbin, h.named e n he] at this
        exact hne (Option.some.inj this)
      · obtain ⟨k, hk, hbin⟩ := any_bin_iff.1 ha
        exact hne ((hm k hk).2.2 e n he hbin.symm)
  · rw [record, mappedTo_mapped] at hb
    split at hb
    · next ha =>
      cases hb
      obtain ⟨k, hk, hbin⟩ := any_bin_iff.1 ha
      exact ⟨k, by rw [device, if_pos rfl, hk], hbin⟩
    · split at hb
      · cases hb
      · next ha =>
        obtain ⟨n, hn, hbin⟩ := h.mapped b e hb
        have hne : e ≠ r.arg16 0 := by
          rintro rfl
          exact ha (any_bin_iff.2 ⟨n, hn, hbin⟩)
        exact ⟨n, by rw [device, if_neg hne, hn], hbin⟩

namespace State.TablesSound

/-- A device entry set with its backlinks, as LOAD DEVICE and CLEAR DEVICE do (R28, R29). -/
theorem deviceSet (h : s.TablesSound) {x : Contents} {m : Option Mapping}
    (hd : DeviceSet s t r x m) (hdw : t.translation.devices.wf = true)
    (hrw : t.bins.records.wf = true)
    (hm : ∀ k, m = some k → r.arg16 0 < binCount ∧ k.bin < binCount ∧
      ∀ e n, s.device e = some n → n.bin = k.bin → e = r.arg16 0) : t.TablesSound := by
  obtain ⟨-, hp, hpr, -, -, -, -, record⟩ := id hd
  refine ⟨hp ▸ h.prefixesWf, hdw, hrw, hpr ▸ h.profilesWf, h.links.deviceSet hd hm,
    h.loaded.of_assigned hpr fun b a hb => ⟨a, ?_, rfl, rfl⟩⟩
  rw [State.assigned, record, mappedTo_assigned] at hb
  exact hb

theorem applyLoadDevice (h : s.TablesSound) (hf : deviceFits r = true)
    (hn : s.namedElsewhere (r.arg16 0) (r.arg16 2) = false) :
    (applyLoadDevice r s).1.TablesSound := by
  simp only [deviceFits, Bool.and_eq_true, decide_eq_true_eq] at hf
  refine h.deviceSet (applyLoadDevice_deviceSet h.devicesWf h.recordsWf) ?_ ?_ fun k hk => ?_
  · unfold Machine.applyLoadDevice
    dsimp only
    split <;> exact Table.wf_set h.devicesWf ..
  · unfold Machine.applyLoadDevice
    dsimp only
    split
    · exact Table.wf_set (Table.wf_set h.recordsWf ..) ..
    · exact Table.wf_set h.recordsWf ..
  · cases hk
    refine ⟨hf.1, hf.2, fun e n he hbin => ?_⟩
    by_contra hne
    simp only [State.namedElsewhere, List.any_eq_false, Bool.and_eq_true, bne_iff_ne, ne_eq,
      beq_iff_eq, not_and] at hn
    exact hn _ (mem_of_findEntry he) hne hbin

theorem applyClearDevice (h : s.TablesSound) : (applyClearDevice r s).1.TablesSound := by
  refine h.deviceSet (applyClearDevice_deviceSet h.devicesWf h.recordsWf) ?_ ?_
    fun k hk => by cases hk
  · unfold Machine.applyClearDevice
    dsimp only
    split <;> exact Table.wf_set h.devicesWf ..
  · unfold Machine.applyClearDevice
    dsimp only
    split
    · exact Table.wf_set h.recordsWf ..
    · exact h.recordsWf

end State.TablesSound

/-! ### RETIRE BIN and CLEAR DISTRICT (R50, R51) -/

theorem State.record_retire (h : s.bins.records.wf = true) (b i : Nat) (f : Bool) :
    (s.retire b f).record i = if i = b then .vacant else s.record i := by
  unfold State.retire
  dsimp only
  cases (s.record b).mapped <;> cases f <;> exact Table.read_write h ..

theorem State.device_retire (h : s.translation.devices.wf = true) (b i : Nat) (f : Bool) :
    (s.retire b f).device i = if (s.record b).mapped = some i then none else s.device i := by
  unfold State.retire
  dsimp only
  cases (s.record b).mapped with
  | none => cases f <;> rfl
  | some e =>
    simp only [Option.some.injEq, eq_comm (a := e)]
    cases f <;> exact State.device_setDevice h e i none

/-- What a retirement leaves: the prefixes and the profiles. -/
theorem State.retire_frame (b : Nat) (f : Bool) :
    (s.retire b f).translation.prefixes = s.translation.prefixes ∧
      (s.retire b f).profiles = s.profiles := by
  unfold State.retire
  cases (s.record b).mapped <;> cases f <;> exact ⟨rfl, rfl⟩

theorem State.TranslationSound.retire (h : s.TranslationSound)
    (hd : s.translation.devices.wf = true) (hr : s.bins.records.wf = true) (b : Nat) (f : Bool) :
    (s.retire b f).TranslationSound := by
  have device := fun i => State.device_retire hd b i f
  have record := fun i => State.record_retire hr b i f
  -- an entry that stays names another bin than the retired one
  have stays : ∀ e m, (s.retire b f).device e = some m → s.device e = some m ∧ m.bin ≠ b := by
    intro e m he
    rw [device] at he
    split at he
    · cases he
    · next hne => exact ⟨he, fun hb => hne (hb ▸ h.named e m he)⟩
  refine ⟨fun p seg hs => h.segments p seg ((State.retire_frame b f).1 ▸ hs),
    fun e m he => h.entries e m (stays e m he).1, fun e m he => ?_, fun i e hi => ?_⟩
  · obtain ⟨he, hb⟩ := stays e m he
    rw [record, if_neg hb]
    exact h.named e m he
  · rw [record] at hi
    split at hi
    · cases hi
    · next hne =>
      obtain ⟨m, hm, hbin⟩ := h.mapped i e hi
      refine ⟨m, ?_, hbin⟩
      rw [device, if_neg fun hb => ?_, hm]
      obtain ⟨m', hm', hbin'⟩ := h.mapped b e hb
      rw [hm] at hm'
      cases hm'
      exact hne (hbin.symm.trans hbin')

namespace State.TablesSound

theorem retire (h : s.TablesSound) (b : Nat) (f : Bool) : (s.retire b f).TablesSound := by
  obtain ⟨hp, hpr⟩ := State.retire_frame (s := s) b f
  refine ⟨hp ▸ h.prefixesWf, ?_, ?_, hpr ▸ h.profilesWf,
    h.links.retire h.devicesWf h.recordsWf b f, h.loaded.of_assigned hpr fun i a hi => ?_⟩
  · unfold State.retire
    dsimp only
    cases (s.record b).mapped with
    | none => cases f <;> exact h.devicesWf
    | some e => cases f <;> exact Table.wf_set h.devicesWf ..
  · unfold State.retire
    dsimp only
    cases (s.record b).mapped <;> cases f <;> exact Table.wf_set h.recordsWf ..
  · rw [State.assigned, State.record_retire h.recordsWf] at hi
    split at hi
    · cases hi
    · exact ⟨a, hi, rfl, rfl⟩

theorem applyClearDistrict (h : s.TablesSound) : (applyClearDistrict r s).1.TablesSound := by
  show ((s.binsOf (r.arg8 0)).foldl (fun t b => t.retire b (r.option 1)) s).TablesSound
  generalize s.binsOf (r.arg8 0) = bins
  induction bins generalizing s with
  | nil => exact h
  | cons b rest ih => exact ih (h.retire b _)

end State.TablesSound

/-! ### LOAD BIN (R46 to R49) -/

namespace State.TablesSound

/-- A record written with its mapped device entry as it was, for a loaded profile and one of the 16
districts. -/
theorem setRecord (h : s.TablesSound) {b : Nat} {x : BinRecord}
    (hm : x.mapped = (s.record b).mapped)
    (ha : ∀ a, x.assigned = some a →
      (s.profiles.get a.profile).isSome = true ∧ a.district < districtCount) :
    (s.setRecord b x).TablesSound := by
  have record := fun i => State.record_setRecord h.recordsWf b i x
  have assigned : ∀ i a, (s.setRecord b x).assigned i = some a →
      (s.profiles.get a.profile).isSome = true ∧ a.district < districtCount := by
    intro i a hi
    rw [State.assigned, record] at hi
    split at hi
    · exact ha a hi
    · exact ⟨h.loaded.named i a hi, h.loaded.districts i a hi⟩
  refine ⟨h.prefixesWf, h.devicesWf, Table.wf_set h.recordsWf .., h.profilesWf,
    h.links.of_mapped rfl fun i => ?_,
    ⟨h.loaded.fields, fun i a hi => (assigned i a hi).1, fun i a hi => (assigned i a hi).2⟩⟩
  rw [record]
  split
  · next hi => rw [hi, hm]
  · rfl

/-- What a change assigns to a bin: a record with this district and profile. -/
theorem setAssigned (h : s.TablesSound) {b : Nat} {a a' : Assigned} (ha : a.placing = a'.placing)
    (hp : (s.profiles.get a'.profile).isSome = true) (hd : a'.district < districtCount) :
    (s.setAssigned b (some a)).TablesSound := by
  simp only [Assigned.placing, Prod.mk.injEq] at ha
  obtain ⟨had, hap, -⟩ := ha
  refine h.setRecord rfl fun x hx => ?_
  cases hx
  exact ⟨hap ▸ hp, had ▸ hd⟩

theorem unlearn (h : s.TablesSound) (b : Nat) (f : Bool) :
    (if f then s.setLearned b none else s).TablesSound := by
  split
  · exact h.of_tables rfl
  · exact h

end State.TablesSound

theorem Assigned.placing_reassigned (a : Assigned) (c : Option Int) (now : Nat) :
    (a.reassigned c now).placing = a.placing := Assigned.placing_byCalibration ..

namespace State.TablesSound

theorem loadEmpty (h : s.TablesSound) (b : Nat) {d p : Nat} (g : Nat) (f : Bool)
    (hp : (s.profiles.get p).isSome = true) (hd : d < districtCount) :
    (s.loadEmpty b d p g f).TablesSound := by
  have fresh := h.unlearn b f
  refine fresh.setRecord (by cases f <;> rfl) fun a ha => ?_
  cases ha
  have placed := Assigned.placing_byCalibration (freshAssignment d p g s.time.seconds)
    ((if f then s.setLearned b none else s).learned b)
  simp only [Assigned.placing, Prod.mk.injEq] at placed
  obtain ⟨hdist, hprof, -⟩ := placed
  rw [hdist, hprof]
  exact ⟨by cases f <;> exact hp, hd⟩

theorem loadReset (h : s.TablesSound) (b : Nat) {d p : Nat} (g : Nat) (f : Bool) (a : Assigned)
    (hp : (s.profiles.get p).isSome = true) (hd : d < districtCount) :
    (s.loadReset b d p g f a).TablesSound :=
  ((h.unlearn b f).setAssigned (Assigned.placing_reassigned
    { a with district := d, profile := p, generation := g } ..) (by cases f <;> exact hp)
    hd).keepsAssignments (.handRemoval b)

theorem loadKeep (h : s.TablesSound) {b d : Nat} (g : Nat) {a : Assigned}
    (ha : s.assigned b = some a) (hd : d < districtCount) : (s.loadKeep b d g a).TablesSound := by
  have kept := h.setAssigned (b := b) (a := { a with district := d, generation := g }) rfl
    (h.loaded.named b a ha) hd
  unfold State.loadKeep
  dsimp only
  split
  · exact kept
  · exact kept.of_tables rfl

theorem applyLoadBin (h : s.TablesSound) (hf : binFits r = true)
    (hp : (s.profiles.get (r.arg8 3)).isSome = true) : (applyLoadBin r s).1.TablesSound := by
  simp only [binFits, Bool.and_eq_true, decide_eq_true_eq] at hf
  obtain ⟨⟨-, hd⟩, -⟩ := hf
  unfold Machine.applyLoadBin
  dsimp only
  cases ha : s.assigned (r.arg16 0) with
  | none => exact h.loadEmpty _ _ _ hp hd
  | some a =>
    dsimp only
    split
    · exact h.loadReset _ _ _ a hp hd
    · exact h.loadKeep _ ha hd

end State.TablesSound

/-! ### LOAD PROFILE (R58, R59, R63 to R65) -/

theorem weightClamps_iff {p : Profile} :
    weightClamps p = true ↔ p.kind = .glass ∧ 4 < p.weight := by
  simp [weightClamps]

/-- The clamp of R59 keeps the fields in their ranges. -/
theorem Profile.held_inRange {p : Profile} (h : p.inRange = true) : p.held.inRange = true := by
  unfold Profile.held
  split
  · simp only [Profile.inRange, List.all_cons, List.all_nil, id, Bool.and_true, Bool.and_eq_true]
      at h ⊢
    obtain ⟨hdepth, hmouth, hcount, hpoints, -, rest⟩ := h
    exact ⟨hdepth, hmouth, hcount, hpoints, rfl, rest⟩
  · exact h

/-- A GLASS weight is held at 4 or less (R59). -/
theorem Profile.held_weight (p : Profile) (h : p.held.kind = .glass) : p.held.weight ≤ 4 := by
  by_cases hc : weightClamps p = true
  · simp [Profile.held, hc]
  · simp only [Profile.held, if_neg hc] at h ⊢
    exact Nat.le_of_not_lt fun hw => hc (weightClamps_iff.2 ⟨h, hw⟩)

theorem State.KeepsAssignments.resetBin (b : Nat) : s.KeepsAssignments (s.resetBin b) := by
  unfold State.resetBin
  cases ha : s.assigned b with
  | none => exact .refl s
  | some a => exact (setAssigned ha (Assigned.placing_reassigned ..)).trans (handRemoval b)

namespace State.TablesSound

theorem setProfile (h : s.TablesSound) (n : Nat) {p : Profile} (hp : p.inRange = true)
    (hw : p.kind = .glass → p.weight ≤ 4) : (s.setProfile n (some p)).TablesSound := by
  have get : ∀ i, (s.setProfile n (some p)).profiles.get i =
      if i = n then some p else s.profiles.get i := fun i => Table.get_set h.profilesWf n i (some p)
  refine ⟨h.prefixesWf, h.devicesWf, h.recordsWf, Table.wf_set h.profilesWf ..,
    h.links.of_mapped rfl fun _ => rfl, ⟨fun i q hq => ?_, fun b a hb => ?_, h.loaded.districts⟩⟩
  · rw [get] at hq
    split at hq
    · cases hq
      exact ⟨hp, hw⟩
    · exact h.loaded.fields i q hq
  · rw [get]
    split
    · rfl
    · exact h.loaded.named b a hb

theorem applyLoadProfile (h : s.TablesSound) (hf : profileFits r = true) :
    (applyLoadProfile r s).1.TablesSound := by
  unfold profileFits at hf
  unfold Machine.applyLoadProfile
  cases hr : r.profile with
  | none => exact h
  | some p =>
    simp only [hr, Bool.and_eq_true] at hf
    exact (h.setProfile _ (Profile.held_inRange hf.2) p.held_weight).keepsAssignments
      (.foldl (fun _ b => .resetBin b) _ _)

/-! ### Every change -/

theorem applyLoadPrefix (h : s.TablesSound) (hf : prefixFits r = true) :
    (applyLoadPrefix r s).1.TablesSound := by
  simp only [prefixFits, Bool.and_eq_true, decide_eq_true_eq] at hf
  obtain ⟨⟨⟨⟨hp, -⟩, hl⟩, -⟩, hs⟩ := hf
  refine h.setPrefix fun g hg => ?_
  cases hg
  exact ⟨hp, hl, hs⟩

/-- A change that has passed its argument check keeps the tables sound. -/
theorem applyChange (h : s.TablesSound) (hf : s.changeFits r = true) :
    (applyChange r s).1.TablesSound := by
  unfold State.changeFits at hf
  unfold Machine.applyChange
  cases ho : r.operation with
  | none =>
    rw [ho] at hf
    exact absurd (hf : false = true) Bool.false_ne_true
  | some op =>
    rw [ho] at hf
    cases op with
    | loadPrefix => exact h.applyLoadPrefix hf
    | clearPrefix => exact h.setPrefix fun g (hg : none = some g) => by cases hg
    | loadDevice =>
      obtain ⟨hargs, hother⟩ := Bool.and_eq_true_iff.1 hf
      exact h.applyLoadDevice hargs ((Bool.not_eq_true' _).mp hother)
    | clearDevice => exact h.applyClearDevice
    | loadBin =>
      obtain ⟨hargs, hloaded⟩ := Bool.and_eq_true_iff.1 hf
      exact h.applyLoadBin hargs hloaded
    | retireBin => exact h.retire _ _
    | clearDistrict => exact h.applyClearDistrict
    | loadProfile => exact h.applyLoadProfile hf
    | _ => exact absurd (hf : false = true) Bool.false_ne_true

end State.TablesSound

end Sys2Proof.Machine
end

section
/-! PROOFS. Every step keeps the translation tables with their backlinks, and the profiles (R19,
R20, R28, R56, R58, R59). -/

namespace Sys2Proof.Machine

open Sys2Proof.Statements

variable {s t : State} {r : Request}

/-! ### The argument check of a change that is carried out -/

theorem isOp_iff {op : Operation} : isOp op r = true ↔ r.operation = some op := by
  simp [isOp]

/-- A change that passes its checks passes those of check 5 (R162). -/
theorem args_of_changeChecks {op : Operation} {rows : List Nat} {args : Bool}
    {more : List (Bool × Result)} (h : s.changeChecks r op rows args more = none) :
    args = true ∧ ∀ c ∈ more, c.1 = true := by
  simp only [State.changeChecks, firstFailure_eq_none, List.forall_mem_cons] at h
  obtain ⟨-, -, -, -, ha, hm⟩ := h
  exact ⟨ha, hm⟩

/-- The operations that change the tables and gate districts (section 6.4). -/
def tableChanges : List Operation :=
  [.loadPrefix, .clearPrefix, .loadDevice, .clearDevice, .loadBin, .retireBin, .clearDistrict,
    .loadProfile]

/-- A change that passes its checks fits the tables as they stand. -/
theorem changeFits_of_headCheck {op : Operation} (hop : op ∈ tableChanges)
    (ho : r.operation = some op) (hc : headCheck s r = none) : s.changeFits r = true := by
  rw [headCheck, ho] at hc
  rw [State.changeFits, ho]
  cases op with
  | loadPrefix | clearPrefix | clearDevice | retireBin | clearDistrict | loadProfile =>
    exact (args_of_changeChecks hc).1
  | loadDevice | loadBin =>
    obtain ⟨hargs, hmore⟩ := args_of_changeChecks hc
    exact Bool.and_eq_true_iff.2 ⟨hargs, hmore _ (List.mem_singleton_self _)⟩
  | _ => exact absurd hop (by decide)

namespace State.TablesSound

theorem applyPending {apply : Request → State → Applied}
    (ha : (apply r s).1.TablesSound) (c : PendingChange) :
    (s.applyPending apply c r).TablesSound :=
  ha.of_tables State.tables_givePlaces

/-- A change carried out keeps the tables sound where its application does. -/
theorem carryChange (h : s.TablesSound) (hf : s.changeFits r = true)
    {apply : Request → State → Applied} (ha : ∀ u, apply r u = Machine.applyChange r u)
    (ds : List Nat) : (s.carryChange apply ds r).TablesSound := by
  have gated : (s.setGates ds).TablesSound := h.of_tables rfl
  unfold State.carryChange
  split
  · rw [ha]
    exact (h.applyChange hf).of_tables rfl
  · split
    · exact applyPending (ha _ ▸ gated.applyChange hf) _
    · exact gated

/-- The command of a change keeps the tables sound: what passes its checks fits the tables. -/
theorem serve_change (h : s.TablesSound) {op : Operation}
    {check : State → Request → Option Result} {apply : Request → State → Applied}
    {ds : Request → State → List Nat} (hmem : op ∈ tableChanges)
    (ha : ∀ r u, r.operation = some op → apply r u = Machine.applyChange r u)
    (hh : ∀ r, r.operation = some op → headCheck s r = check s r) :
    (s.serve (isOp op) check fun r s => s.carryChange apply (ds r s) r).TablesSound := by
  rcases State.serve_cases (isOp op) check (fun r s => s.carryChange apply (ds r s) r) s with
    hs | ⟨r, -, hop, ⟨x, -, hs⟩ | ⟨hc, hs⟩⟩ <;> rw [hs]
  · exact h
  · exact h.of_tables rfl
  · rw [isOp_iff] at hop
    exact h.carryChange (changeFits_of_headCheck hmem hop ((hh r hop).trans hc)) (ha r · hop) _

end State.TablesSound

/-! ### Every command and every step -/

/-- CHANGE_APPLICATION applies the pending change as it was checked (R104, R161). -/
theorem execChangeApplication_keeps_tablesSound (h : s.TablesSound) (hp : s.PendingSound) :
    Keeps State.TablesSound (execChangeApplication s) := by
  refine keeps_next ?_
  unfold State.whenRunning
  split
  · dsimp only
    split
    · next c r rest hc hq =>
      split
      · obtain ⟨r', rest', hq', hf, -⟩ := hp c hc
        rw [hq] at hq'
        cases hq'
        exact State.TablesSound.applyPending (h.applyChange hf) c
      · exact h
    · exact h
  · exact h

theorem execPowerOn_keeps_tablesSound (h : s.TablesSound) :
    Keeps State.TablesSound (execPowerOn s) := by
  refine keeps_next ?_
  split
  · exact h
  · exact State.TablesSound.reset.of_tables rfl

/-- Every command keeps the tables sound: those that alter them, case by case. -/
theorem exec_keeps_tablesSound (c : Instr) (h : s.TablesSound) (hp : s.PendingSound) :
    Keeps State.TablesSound (exec c s) := by
  by_cases hc : altersTables c = false
  · exact (exec_keepsAssignments c hc).mono fun _ => h.keepsAssignments
  cases c with
  | loadPrefix | clearPrefix | loadDevice | clearDevice | loadBin | retireBin | clearDistrict
  | loadProfile =>
    exact keeps_next (h.serve_change (by decide) (fun _ _ ho => by rw [applyChange, ho])
      fun _ ho => by rw [headCheck, ho])
  | changeApplication => exact execChangeApplication_keeps_tablesSound h hp
  | powerOn => exact execPowerOn_keeps_tablesSound h
  | _ => exact absurd rfl hc

theorem step_keeps_tablesSound (h : s.TablesSound) (hp : s.PendingSound) :
    Keeps State.TablesSound (step s) := by
  unfold step
  split
  · unfold idle
    split
    · exact exec_keeps_tablesSound _ h hp
    · exact keeps_next (h.of_tables State.tables_tick)
  · exact exec_keeps_tablesSound _ (h.of_tables rfl) hp

/-- Settles O57: each command keeps `State.TablesSound`, the changes because what is applied has
passed its argument check against the tables as they stand, and so does the tick. -/
theorem everyStepKeepsBacklinksAndProfiles : Obligations.EveryStepKeepsBacklinksAndProfiles := by
  intro s t hcan hp ht hpr hs
  have kept := step_keeps_tablesSound (hcan.tablesSound ht hpr) hp t hs
  exact ⟨kept.links, kept.loaded⟩

end Sys2Proof.Machine
end

section
/-! PROOFS. A change of the tables carried out with nothing in flight in its districts (R103, R104,
R106): what it leaves besides the tables it changes. -/

namespace Sys2Proof.Machine

open Sys2Proof.Statements

variable {s t u : State} {r : Request}

/-! ### Setting the gates of a set of districts (R100) -/

theorem Gates.setStates_inFlight (ds : List Nat) (x : GateState) (g : Gates) :
    (g.setStates ds x).inFlight = g.inFlight := by
  unfold Gates.setStates
  induction ds generalizing g with
  | nil => rfl
  | cons d rest ih => exact ih (g.setState x d)

theorem Gates.setStates_wf (ds : List Nat) (x : GateState) {g : Gates}
    (h : g.states.wf = true) : (g.setStates ds x).states.wf = true := by
  unfold Gates.setStates
  induction ds generalizing g with
  | nil => exact h
  | cons d rest ih => exact ih (Table.wf_set h ..)

theorem Gates.state_setStates {g : Gates} (h : g.states.wf = true) (ds : List Nat)
    (x : GateState) (d : Nat) :
    (g.setStates ds x).state d = if d ∈ ds then x else g.state d := by
  unfold Gates.setStates
  induction ds generalizing g with
  | nil => rfl
  | cons c rest ih =>
    refine (ih (g := g.setState x c) (Table.wf_set h ..)).trans ?_
    have one : (g.setState x c).state d = if d = c then x else g.state d :=
      Table.read_write h ..
    rw [one]
    by_cases hd : d ∈ rest <;> by_cases hc : d = c <;> simp [hd, hc]

/-! ### A change reads no gate -/

theorem State.retire_setGates (b : Nat) (f : Bool) (ds : List Nat) (s : State) :
    (s.setGates ds).retire b f = (s.retire b f).setGates ds := by
  have same : (s.setGates ds).record b = s.record b := rfl
  unfold State.retire
  rw [same]
  cases (s.record b).mapped <;> cases f <;> rfl

theorem State.resetBin_setGates (b : Nat) (ds : List Nat) (s : State) :
    (s.setGates ds).resetBin b = (s.resetBin b).setGates ds := by
  have same : (s.setGates ds).assigned b = s.assigned b := rfl
  unfold State.resetBin
  rw [same]
  cases s.assigned b <;> rfl

theorem foldl_setGates {f : State → Nat → State}
    (hf : ∀ (s : State) (b : Nat) (ds : List Nat), f (s.setGates ds) b = (f s b).setGates ds)
    (l ds : List Nat) (s : State) : l.foldl f (s.setGates ds) = (l.foldl f s).setGates ds := by
  induction l generalizing s with
  | nil => rfl
  | cons b rest ih =>
    rw [List.foldl_cons, List.foldl_cons, hf]
    exact ih (f s b)

theorem applyLoadDevice_setGates (ds : List Nat) : applyLoadDevice r (s.setGates ds) =
    ((applyLoadDevice r s).1.setGates ds, (applyLoadDevice r s).2) := by
  have same : (s.setGates ds).otherBin (r.arg16 0) (r.arg16 2) =
    s.otherBin (r.arg16 0) (r.arg16 2) := rfl
  unfold applyLoadDevice
  dsimp only
  rw [same]
  cases s.otherBin (r.arg16 0) (r.arg16 2) <;> rfl

theorem applyClearDevice_setGates (ds : List Nat) : applyClearDevice r (s.setGates ds) =
    ((applyClearDevice r s).1.setGates ds, (applyClearDevice r s).2) := by
  have same : (s.setGates ds).device (r.arg16 0) = s.device (r.arg16 0) := rfl
  unfold applyClearDevice
  dsimp only
  rw [same]
  cases s.device (r.arg16 0) <;> rfl

theorem State.loadKeep_setGates (b d g : Nat) (a : Assigned) (ds : List Nat) :
    (s.setGates ds).loadKeep b d g a = (s.loadKeep b d g a).setGates ds := by
  unfold State.loadKeep
  dsimp only
  split <;> rfl

theorem State.loadReset_setGates (b d p g : Nat) (f : Bool) (a : Assigned) (ds : List Nat) :
    (s.setGates ds).loadReset b d p g f a = (s.loadReset b d p g f a).setGates ds := by
  cases f <;> rfl

theorem State.loadEmpty_setGates (b d p g : Nat) (f : Bool) (ds : List Nat) :
    (s.setGates ds).loadEmpty b d p g f = (s.loadEmpty b d p g f).setGates ds := by
  cases f <;> rfl

theorem applyLoadBin_setGates (ds : List Nat) : applyLoadBin r (s.setGates ds) =
    ((applyLoadBin r s).1.setGates ds, (applyLoadBin r s).2) := by
  have same : (s.setGates ds).assigned (r.arg16 0) = s.assigned (r.arg16 0) := rfl
  unfold applyLoadBin
  dsimp only
  rw [same]
  cases s.assigned (r.arg16 0) with
  | none =>
    dsimp only
    rw [State.loadEmpty_setGates]
    rfl
  | some a =>
    dsimp only
    rw [State.loadReset_setGates, State.loadKeep_setGates]
    split <;> rfl

theorem applyRetireBin_setGates (ds : List Nat) : applyRetireBin r (s.setGates ds) =
    ((applyRetireBin r s).1.setGates ds, (applyRetireBin r s).2) :=
  Prod.ext (State.retire_setGates _ _ ds s) rfl

theorem applyClearDistrict_setGates (ds : List Nat) : applyClearDistrict r (s.setGates ds) =
    ((applyClearDistrict r s).1.setGates ds, (applyClearDistrict r s).2) :=
  Prod.ext (foldl_setGates (fun s b ds => State.retire_setGates b (r.option 1) ds s) _ ds s) rfl

theorem applyLoadProfile_setGates (ds : List Nat) : applyLoadProfile r (s.setGates ds) =
    ((applyLoadProfile r s).1.setGates ds, (applyLoadProfile r s).2) := by
  unfold applyLoadProfile
  cases r.profile with
  | none => rfl
  | some p =>
    exact Prod.ext (foldl_setGates (fun s b ds => State.resetBin_setGates b ds s) _ ds
      (s.setProfile (r.arg8 0) (some p.held))) rfl

/-- A change reads no gate: the gates set before it and after it give the same. -/
theorem applyChange_setGates (ds : List Nat) : applyChange r (s.setGates ds) =
    ((applyChange r s).1.setGates ds, (applyChange r s).2) := by
  unfold applyChange
  split
  · rfl
  · rfl
  · exact applyLoadDevice_setGates ds
  · exact applyClearDevice_setGates ds
  · exact applyLoadBin_setGates ds
  · exact applyRetireBin_setGates ds
  · exact applyClearDistrict_setGates ds
  · exact applyLoadProfile_setGates ds
  · rfl

/-! ### What is left besides the tables (R104, R106) -/

/-- A change whose tables are written, whose gates reopen and whose response is handed on, before
the free places are given. -/
theorem settled_reopen (hw : s.gates.states.wf = true) (hu : s.TablesStep u) (c : PendingChange)
    (x : Result) (k : Contents) :
    Settled s ((u.reopen c).answer r x [k]).givePlaces r x k c.districts := by
  have hg : u.gates = s.gates := by rw [hu.frame]
  have frame := State.givePlaces_frame ((u.reopen c).answer r x [k])
  generalize ((u.reopen c).answer r x [k]).givePlaces = t at frame
  refine ⟨?_, ?_, ?_, fun d => ?_, ?_, ?_⟩
  · rw [frame, hu.frame]
    rfl
  · rw [frame]
    rfl
  · rw [frame]
    exact (Gates.setStates_inFlight ..).trans (congrArg Gates.inFlight hg)
  · rw [frame, ← hg, ← Gates.state_setStates (hg ▸ hw)]
    rfl
  · rw [frame, hu.frame]
    rfl
  · rw [frame, hu.frame]
    rfl

/-- Gates that are set for the same districts before are no difference. -/
theorem settled_setGates {ds : List Nat} {x : Result} {k : Contents}
    (hw : s.gates.states.wf = true) (h : Settled (s.setGates ds) t r x k ds) :
    Settled s t r x k ds := by
  obtain ⟨frame, change, inFlight, states, masks, chain⟩ := h
  refine ⟨frame, change, inFlight.trans (Gates.setStates_inFlight ..), fun d => ?_, masks, chain⟩
  rw [states]
  split
  · rfl
  · next hd => exact (Gates.state_setStates hw ..).trans (if_neg hd)

/-! ### Carrying a change out at its head (R103, R104) -/

/-- Two states hold the same in the tables a change of the tables reaches. -/
structure State.SameTables (u t : State) : Prop where
  translation : t.translation = u.translation
  bins : t.bins = u.bins
  profiles : t.profiles = u.profiles
  due : t.due = u.due

theorem State.sameTables_setGates (u : State) (ds : List Nat) : u.SameTables (u.setGates ds) :=
  ⟨rfl, rfl, rfl, rfl⟩

theorem State.SameTables.trans (h : s.SameTables t) (h' : t.SameTables u) : s.SameTables u :=
  ⟨h'.translation.trans h.translation, h'.bins.trans h.bins, h'.profiles.trans h.profiles,
    h'.due.trans h.due⟩

theorem State.sameTables_reopen (u : State) (c : PendingChange) (x : Result) (k : Contents) :
    u.SameTables ((u.reopen c).answer r x [k]).givePlaces := by
  rw [State.givePlaces_frame]
  exact ⟨rfl, rfl, rfl, rfl⟩

/-- A change with nothing in flight in its districts is applied at once, with an empty gate set and
with gates that are set and reopen. -/
theorem carryChange_settled {ds : List Nat} (hw : s.gates.states.wf = true)
    (hc : s.gates.change = none) (hd : s.gates.drained ds = true) :
    Settled s (s.carryChange applyChange ds r) r .ok (applyChange r s).2 ds ∧
      (applyChange r s).1.SameTables (s.carryChange applyChange ds r) := by
  have frame := (applyChange_tablesStep r s).frame
  by_cases he : ds = []
  · subst he
    rw [State.carryChange_ungated]
    generalize (applyChange r s).1 = u at frame
    rw [frame]
    exact ⟨⟨rfl, hc, rfl, fun _ => rfl, rfl, rfl⟩, rfl, rfl, rfl, rfl⟩
  · have gated := applyChange_tablesStep r (s.setGates ds)
    rw [applyChange_setGates] at gated
    rw [State.carryChange_drained he hd, State.applyPending, applyChange_setGates]
    exact ⟨settled_setGates hw (settled_reopen (Gates.setStates_wf _ _ hw) gated _ _ _),
      (State.sameTables_setGates _ ds).trans (State.sameTables_reopen _ _ _ _)⟩

theorem State.carryChange_congr {apply apply' : Request → State → Applied} {ds : List Nat}
    (h : ∀ u, apply r u = apply' r u) :
    s.carryChange apply ds r = s.carryChange apply' ds r := by
  simp only [State.carryChange, State.applyPending, h]

/-- The command of a change whose request passes its checks carries the change out. -/
theorem serve_carryChange {op : Operation} {check : State → Request → Option Result}
    {apply : Request → State → Applied} {ds : Request → State → List Nat} (hp : Passes s r op)
    (ha : ∀ u, apply r u = applyChange r u) (hh : headCheck s r = check s r)
    (hg : s.gateSet r = ds r s) :
    s.serve (isOp op) check (fun r s => s.carryChange apply (ds r s) r) =
      s.carryChange applyChange (s.gateSet r) r := by
  obtain ⟨hr, ho, hc⟩ := hp
  rw [State.serve_passed hr (isOp_iff.2 ho) (hh ▸ hc), State.carryChange_congr ha, hg]

theorem exec_change {op : Operation} (hop : op ∈ tableChanges) (hp : Passes s r op) :
    exec (headCommand r) s = .next (s.carryChange applyChange (s.gateSet r) r) := by
  have ho := hp.2.1
  rw [headCommand, ho]
  cases op with
  | loadPrefix | clearPrefix | loadDevice | clearDevice | loadBin | retireBin | clearDistrict
  | loadProfile =>
    exact congrArg Host.Outcome.next (serve_carryChange hp (fun _ => by rw [applyChange, ho])
      (by rw [headCheck, ho]) (by rw [State.gateSet, ho]))
  | _ => exact absurd hop (by decide)

/-- A change of the tables with nothing in flight in its districts is made and answered in its own
command. -/
theorem exec_change_settled {op : Operation} (hop : op ∈ tableChanges) (hcan : s.Canonical)
    (hd : s.gates.drained (s.gateSet r) = true) (hp : Passes s r op) :
    ∃ t, exec (headCommand r) s = .next t ∧
      Settled s t r .ok (applyChange r s).2 (s.gateSet r) ∧ (applyChange r s).1.SameTables t := by
  obtain ⟨-, hc, -, -⟩ := State.head_eq_some.1 hp.1
  exact ⟨_, exec_change hop hp,
    carryChange_settled (Table.wf_of_canonical hcan.gates) hc hd⟩

/-! ### The statements about the translation tables -/

theorem State.SameTables.prefixSet {x : Contents} {seg : Option Segment} (h : u.SameTables t)
    (hs : PrefixSet s u r x seg) : PrefixSet s t r x seg := by
  unfold PrefixSet at *
  rwa [h.translation, h.bins, h.profiles, h.due]

theorem State.SameTables.deviceSet {x : Contents} {m : Option Mapping} (h : u.SameTables t)
    (hs : DeviceSet s u r x m) : DeviceSet s t r x m := by
  unfold DeviceSet State.device State.record at *
  rwa [h.translation, h.bins, h.profiles, h.due]

/-- An entry of the translation table set (R26, R27). -/
theorem prefixSet_setPrefix (hw : s.translation.prefixes.wf = true) (seg : Option Segment) :
    PrefixSet s (s.setPrefix (r.arg8 0) seg) r
      (.prefixWas (s.translation.prefixes.get (r.arg8 0))) seg :=
  ⟨rfl, rfl, rfl, rfl, rfl, fun p => Table.get_set hw _ p seg⟩

/-- Settles O32: with nothing in flight the change is made in its own command, and it sets the one
entry. -/
theorem prefixEntryIsLoadedOrCleared : Obligations.PrefixEntryIsLoadedOrCleared := by
  intro s r hcan hd
  refine ⟨fun hp => ?_, fun hp => ?_⟩
  all_goals
    have ho := hp.2.1
    have hg : s.gateSet r = List.range 16 := by rw [State.gateSet, ho]; rfl
    obtain ⟨t, he, hs, ht⟩ := exec_change_settled (by decide) hcan (hg ▸ hd) hp
    rw [headCommand, ho] at he
    rw [applyChange, ho] at hs ht
    rw [hg] at hs
    exact ⟨t, _, he, hs, ht.prefixSet (prefixSet_setPrefix hcan.prefixes _)⟩

/-- Settles O33: with nothing in flight in its districts the change is made in its own command, and
it sets the entry and the backlinks. -/
theorem deviceEntryAndBacklinkChangeTogether :
    Obligations.DeviceEntryAndBacklinkChangeTogether := by
  intro s r hcan hd
  have hr := Table.wf_of_canonical hcan.records
  refine ⟨fun hp => ?_, fun hp => ?_⟩
  all_goals
    have ho := hp.2.1
    obtain ⟨t, he, hs, ht⟩ := exec_change_settled (by decide) hcan hd hp
    rw [headCommand, ho] at he
    rw [applyChange, ho] at hs ht
  · exact ⟨t, _, he, hs, ht.deviceSet (applyLoadDevice_deviceSet hcan.devices hr)⟩
  · exact ⟨t, _, he, hs, ht.deviceSet (applyClearDevice_deviceSet hcan.devices hr)⟩

end Sys2Proof.Machine
end

section
/-! PROOFS. Translation (R18, R21, R23) and the reads (R30, R31, R53, R67, R110, R142, R166,
R177). -/

namespace Sys2Proof.Machine

open Sys2Proof.Statements

variable {s : State} {r : Request} {id : SensorId}

/-! ### The six tests of translation (R21) -/

/-- Tests 2 to 6, of an id that has passed the first. -/
theorem State.translate_of_lt (h : prefixOf id < 64) : s.translate id =
    match s.translation.prefixes.get (prefixOf id) with
    | none => .fault .prefixInvalid 16 none
    | some seg =>
        if seg.length ≤ indexOf id then .fault .deviceRange 16 none
        else match s.device (seg.base + indexOf id) with
          | none => .fault .deviceInvalid 16 none
          | some m => s.translateMapping m := by
  unfold State.translate
  rw [if_neg (Nat.not_le.2 h : ¬ prefixCount ≤ prefixOf id)]
  rfl

/-- Tests 4 to 6, of an id whose device index lies in its segment. -/
theorem State.translate_of_segment {seg : Segment} (h : prefixOf id < 64)
    (hs : s.translation.prefixes.get (prefixOf id) = some seg) (hi : indexOf id < seg.length) :
    s.translate id = match s.device (seg.base + indexOf id) with
      | none => .fault .deviceInvalid 16 none
      | some m => s.translateMapping m := by
  rw [State.translate_of_lt h, hs]
  exact if_neg (Nat.not_le.2 hi)

/-- Settles O11: one clause for each test of R21, in their order. -/
theorem translationMakesItsTestsInOrder : Obligations.TranslationMakesItsTestsInOrder := by
  intro s id p i hp hi
  obtain rfl : p = prefixOf id := hp
  obtain rfl : i = indexOf id := hi
  refine ⟨fun h => ?_, fun h hn => ?_, fun seg h hs => ⟨fun hl => ?_, fun hl hd => ?_,
    fun m hl hd => ⟨fun ha => ?_, fun a ha => ?_⟩⟩⟩
  · exact if_pos h
  · rw [State.translate_of_lt h, hn]
  · rw [State.translate_of_lt h, hs]
    exact if_pos hl
  · rw [State.translate_of_segment h hs hl, hd]
  · rw [State.translate_of_segment h hs hl, hd]
    simp only [State.translateMapping, ha]
    rfl
  · rw [State.translate_of_segment h hs hl, hd]
    simp only [State.translateMapping, ha]
    by_cases hg : m.generation = 0 ∨ m.generation = a.generation
    · rw [if_pos hg, if_neg (by tauto)]
    · rw [if_neg hg, if_pos (by tauto)]

/-! ### The carrying out of a read (R168) -/

/-- A read that passes its checks is answered OK with the contents it reports, and nothing else
changes. -/
theorem next_serve_report {mine : Request → Bool} {check : State → Request → Option Result}
    {of : Request → State → Contents} {k : Contents} (hr : s.head = some r) (hm : mine r = true)
    (hc : check s r = none) (hk : of r s = k) :
    (.next (s.serve mine check (State.report of)) : Host.Outcome State Fault Refusal) =
      .next (answered s r .ok [k]) := by
  rw [State.serve_passed hr hm hc, State.report, hk]
  rfl

/-! ### READ DEVICE BY SENSOR (R31) -/

theorem State.entryOfSensor_eq_some {seg : Segment} (h : prefixOf id < 64)
    (hs : s.translation.prefixes.get (prefixOf id) = some seg) (hi : indexOf id < seg.length) :
    s.entryOfSensor id = some (seg.base + indexOf id) := by
  unfold State.entryOfSensor
  rw [hs]
  exact if_pos ⟨h, hi⟩

theorem State.entryOfSensor_eq_none (h : 64 ≤ prefixOf id ∨
    ∀ seg, s.translation.prefixes.get (prefixOf id) = some seg → seg.length ≤ indexOf id) :
    s.entryOfSensor id = none := by
  unfold State.entryOfSensor
  split
  · next seg hs =>
    refine if_neg fun ⟨hp, hi⟩ => ?_
    rcases h with h | h
    · exact Nat.not_le.2 hp h
    · exact Nat.not_le.2 hi (h seg hs)
  · rfl

/-- The report of a sensor id shows what each passed test of R21 shows. -/
theorem sensorFields_sensorReport (s : State) (id : SensorId) :
    sensorFields s id (s.sensorReport id) := by
  refine ⟨rfl, rfl, fun code row bin ht => ?_, fun bin d ht => ?_,
    fun _ => State.entryOfSensor_eq_some, State.entryOfSensor_eq_none, rfl, rfl⟩
  · simp only [State.sensorReport, ht]
  · simp only [State.sensorReport, ht]

/-! ### READ BIN (R53) -/

/-- The report of a bin shows its record, its due entry and its calibration entry. -/
theorem binFields_binReport (s : State) (b : Nat) (f : Bool) :
    binFields s b f (s.binReport b f) := by
  refine ⟨rfl, rfl, rfl, rfl, rfl, fun ha => ?_, fun a ha => ?_⟩
  · have hr : (s.record b).assigned = none := ha
    simp only [State.binReport, ha, BinRecord.state, hr]
    rfl
  · have hr : (s.record b).assigned = some a := ha
    simp only [State.binReport, ha, BinRecord.state, hr]
    rfl

/-! ### READ CONFIG (R176, R177) -/

theorem halfWritten_cutCopy (torn old new a b : ProtectionCopy) :
    HalfWritten (cutCopy torn old new a b) old new a b :=
  ⟨fun h => by rw [h, cutCopy_same], cutCopy_unequal⟩

/-- READ CONFIG reports what is in force and what the store holds now. -/
theorem configFields_configReport (s : State) : configFields s s.configReport := by
  refine ⟨⟨rfl, rfl, rfl, rfl, rfl, rfl, rfl, rfl, rfl, rfl, rfl, rfl⟩, fun hw => ?_, fun hw => ?_,
    fun w hw => ⟨fun hp => ?_, fun hp => ?_, fun hp => ?_, fun hp => ?_⟩⟩
  · obtain ⟨hs, hc⟩ := Store.cutOff_settings (n := s.drawn) hw
    simp only [State.configReport, State.heldNow, hs, hc]
    exact ⟨trivial, rfl⟩
  · simp only [State.configReport, State.heldNow_idle hw]
  · obtain ⟨h1, h2, h3, hc⟩ := Store.cutOff_block (n := s.drawn) hw hp
    simp only [State.configReport, State.heldNow, h1, h2, h3]
    exact ⟨beq_eq_false_iff_ne.2 hc, trivial⟩
  · refine ⟨_, ?_, halfWritten_cutCopy (Config.tornCopy s.drawn) ..⟩
    simp only [State.configReport, State.heldNow, Store.cutOff, hw, hp]
  · refine ⟨_, ?_, halfWritten_cutCopy (Config.tornCopy s.drawn) ..⟩
    simp only [State.configReport, State.heldNow, Store.cutOff, hw, hp]
  · refine ⟨_, ?_, halfWritten_cutCopy (Config.tornCopy s.drawn) ..⟩
    simp only [State.configReport, State.heldNow, Store.cutOff, hw, hp]

/-! ### The reads -/

theorem isBySensor_iff (ho : r.operation = some .readDevice) :
    isBySensor r = true ↔ r.arg8 0 = 1 := by
  simp [isBySensor, isOp, ho]

theorem isByEntry_iff (ho : r.operation = some .readDevice) :
    isByEntry r = true ↔ r.arg8 0 ≠ 1 := by
  simp [isByEntry, isOp, ho]

/-- A READ COUNTERS whose option is clear is no reset (R142, R143). -/
theorem isCountersReset_eq_false (h : r.arg8 1 % 2 = 0) : isCountersReset r = false := by
  have clear : r.option 1 = false :=
    decide_eq_false fun h1 : r.arg8 1 % 2 = 1 => by omega
  rw [isCountersReset, clear, Bool.and_false]

/-- A READ PROFILE that passes its checks names a loaded profile (R67). -/
theorem profile_of_checkReadProfile (h : checkReadProfile s r = none) :
    ∃ p, s.profiles.get (r.arg8 0) = some p := by
  simp only [checkReadProfile, firstFailure_eq_none, List.forall_mem_cons] at h
  obtain ⟨-, -, -, -, loaded, -⟩ := h
  exact Option.isSome_iff_exists.1 loaded

/-- Settles O38: each read that passes its checks is answered OK with its report. -/
theorem readsReportTheTablesAsTheyStand : Obligations.ReadsReportTheTablesAsTheyStand := by
  intro s r hr hc
  refine ⟨fun ho => ⟨fun hn => ?_, fun seg hs => ?_⟩, fun ho hf => ⟨fun hn => ?_, fun m hm => ?_⟩,
    fun ho hf => ⟨_, ?_, sensorFields_sensorReport s _⟩,
    fun ho => ⟨_, ?_, binFields_binReport s _ _⟩, fun ho => ?_, fun ho => ?_, fun ho hf => ?_,
    fun ho => ?_, fun ho => ⟨_, ?_, configFields_configReport s⟩⟩
  all_goals
    rw [headCheck, ho] at hc
    dsimp only at hc
    have mine := isOp_iff.2 ho
  · exact next_serve_report hr mine hc (by simp only [reportPrefix, hn])
  · refine next_serve_report hr mine hc ?_
    simp only [reportPrefix, hs, State.overlapCount, Segment.meets, Bool.and_assoc]
  · have form : r.arg8 0 ≠ 1 := by omega
    rw [if_neg (mt (isBySensor_iff ho).1 form)] at hc
    refine next_serve_report hr ((isByEntry_iff ho).2 form) hc ?_
    have entry : s.device r.readEntry = none := hn
    rw [reportDevice, entry]
  · have form : r.arg8 0 ≠ 1 := by omega
    rw [if_neg (mt (isBySensor_iff ho).1 form)] at hc
    refine next_serve_report hr ((isByEntry_iff ho).2 form) hc ?_
    have entry : s.device r.readEntry = some m := hm
    rw [reportDevice, entry]
    rfl
  · have form := (isBySensor_iff ho).2 hf
    rw [if_pos form] at hc
    exact next_serve_report hr form hc rfl
  · exact next_serve_report hr mine hc rfl
  · obtain ⟨p, hp⟩ := profile_of_checkReadProfile hc
    refine ⟨p, hp, next_serve_report hr mine hc ?_⟩
    simp only [reportProfile, State.profileOf, hp]
    rfl
  · exact next_serve_report hr mine hc rfl
  · have noReset := isCountersReset_eq_false hf
    rw [noReset] at hc
    exact next_serve_report hr (by rw [isCountersRead, mine, noReset]; rfl) hc rfl
  · exact next_serve_report hr mine hc rfl
  · exact next_serve_report hr mine hc rfl

end Sys2Proof.Machine
end

section
/-! PROOFS. The part of the state that the invariants of the gates, of the estimates in flight, of the
calibration and of the collection-due queue read, and what a command that makes no change of the
tables can do to it. -/

namespace Sys2Proof.Machine

open Sys2Proof.Statements

variable {s t : State}

/-! ### The ledger -/

/-- What the invariants of bins, districts and flights read of the state. -/
structure Ledger where
  translation : Translation
  records : Table BinRecord
  calibration : Table Int
  profiles : Table Profile
  due : List DueEntry
  slots : List Estimate
  inFlight : Table Nat
  states : Table GateState
  change : Option PendingChange
  queue : List Request

/-- The ledger of a state. -/
def State.ledger (s : State) : Ledger where
  translation := s.translation
  records := s.bins.records
  calibration := s.bins.calibration
  profiles := s.profiles
  due := s.due
  slots := s.slots
  inFlight := s.gates.inFlight
  states := s.gates.states
  change := s.gates.change
  queue := s.management.queue

@[simp] theorem State.ledger_endFrame (c : WatchClass) (row : Nat) (bin : Option Nat)
    (p : List Byte) (o : OutcomeCode) : (s.endFrame c row bin p o).ledger = s.ledger := rfl
@[simp] theorem State.ledger_setWindow (w : List MergeEntry) :
    (s.setWindow w).ledger = s.ledger := rfl
@[simp] theorem State.ledger_answer (r : Request) (x : Result) (l : List Contents) :
    (s.answer r x l).ledger = { s.ledger with queue := s.management.queue.tail } := rfl

/-! ### Intake and admission leave it -/

@[simp] theorem State.ledger_release (e : MergeEntry) : (s.release e).ledger = s.ledger := by
  rw [State.release_frame]
  rfl

@[simp] theorem State.ledger_givePlaces : s.givePlaces.ledger = s.ledger := by
  rw [State.givePlaces_frame]
  rfl

@[simp] theorem State.ledger_expire (e : MergeEntry) : (s.expire e).ledger = s.ledger := by
  unfold State.expire
  split <;> simp

@[simp] theorem State.ledger_openEntry (q : Nat) (p : List Byte) :
    (s.openEntry q p).ledger = s.ledger := by
  unfold State.openEntry
  dsimp only
  split <;> simp

@[simp] theorem State.ledger_openFull (q : Nat) (p : List Byte) :
    (s.openFull q p).ledger = s.ledger := by
  unfold State.openFull
  split
  · simp
  · split <;> simp

@[simp] theorem State.ledger_intoWindow (q : Nat) (p : List Byte) :
    (s.intoWindow q p).ledger = s.ledger := by
  unfold State.intoWindow
  split
  · rfl
  · split <;> simp

@[simp] theorem State.ledger_takeFrame (chain : Nat) (f : ChainFrame) :
    (s.takeFrame chain f).ledger = s.ledger := by
  unfold State.takeFrame
  dsimp only
  split
  · rfl
  · rw [State.ledger_intoWindow]
    rfl

/-! ### The link leaves it -/

@[simp] theorem State.ledger_grant (c : Candidate) : (s.grant c).ledger = s.ledger := by
  cases c with
  | response =>
    show s.grantResponse.ledger = s.ledger
    unfold State.grantResponse
    split <;> rfl
  | start | forced | notice | scheduled | catchUp => rfl

@[simp] theorem State.ledger_arbitrate : s.arbitrate.ledger = s.ledger := by
  unfold State.arbitrate
  split <;> simp

@[simp] theorem State.ledger_grantIf (cs : List Candidate) :
    (s.grantIf cs).ledger = s.ledger := by
  unfold State.grantIf
  split
  · split <;> simp
  · rfl

@[simp] theorem State.ledger_tick : s.tick.ledger = s.ledger := by
  unfold State.tick
  split <;> rfl

/-! ### What a command that changes no table can do to it -/

/-- Everything that a command which is no change of the tables, no completion, no sweep and no
power-on can do to the ledger: nothing; a request joins the queue (R160); the head is answered while
no change waits (R161); an estimate starts in the district of its bin (R71); the waiting change times
out (R105); or every block takes its restart state (R178). -/
inductive State.LedgerStep (s t : State) : Prop
  | same (h : t.ledger = s.ledger)
  | joined (r : Request)
      (h : t.ledger = { s.ledger with queue := s.management.queue ++ [r] })
  | answered (hc : s.gates.change = none)
      (h : t.ledger = { s.ledger with queue := s.management.queue.tail })
  | started (e : Estimate) (a : Assigned) (ha : s.assigned e.frame.bin = some a)
      (hd : a.district = e.district)
      (h : t.ledger = { s.ledger with
        slots := s.slots ++ [e]
        inFlight := (s.gates.setCount e.district (s.gates.count e.district + 1)).inFlight })
  | timedOut (c : PendingChange) (hc : s.gates.change = some c)
      (h : t.ledger = { s.ledger with
        states := (s.gates.setStates c.districts .opened).states
        inFlight := (s.gates.setStates c.districts .opened).inFlight
        change := none
        queue := s.management.queue.tail })
  | restarted (h : t.ledger = { s.ledger with
        slots := [], inFlight := .empty, states := .empty, change := none, queue := [] })

namespace State.LedgerStep

theorem whenRunning {f : State → State} (h : s.LedgerStep (f s)) :
    s.LedgerStep (s.whenRunning f) := by
  unfold State.whenRunning
  split
  · exact h
  · exact .same rfl

theorem startFrame (f : Frame) : s.LedgerStep (s.takeAdmitted.startFrame f) := by
  unfold State.startFrame
  split
  · exact .same rfl
  · next a ha =>
    split
    · next gap _ => exact .started { frame := f, district := a.district, gap := gap } a ha rfl rfl
    · exact .same rfl
    · exact .same rfl

theorem arrive (r : Request) : s.LedgerStep (s.arrive r) := by
  unfold State.arrive
  split
  · exact .joined r rfl
  · split <;> exact .same rfl

/-- The head is served while no change waits: it stays, is refused, or is carried out. -/
theorem serve {mine : Request → Bool} {check : State → Request → Option Result}
    {carry : Request → State → State}
    (hk : ∀ r, s.gates.change = none → s.LedgerStep (carry r s)) :
    s.LedgerStep (s.serve mine check carry) := by
  rcases State.serve_cases mine check carry s with hs | ⟨r, hr, -, ⟨x, -, hs⟩ | ⟨-, hs⟩⟩ <;> rw [hs]
  · exact .same rfl
  · exact .answered (State.head_eq_some.1 hr).2.1 rfl
  · exact hk r (State.head_eq_some.1 hr).2.1

/-- A request that is answered and reaches no part of the ledger. -/
theorem serve_answer {mine : Request → Bool} {check : State → Request → Option Result}
    {x : Request → Result} {l : Request → State → List Contents} {f : Request → State → State}
    (hf : ∀ r, (f r s).ledger = s.ledger) :
    s.LedgerStep (s.serve mine check fun r s => (f r s).answer r (x r) (l r s)) := by
  refine serve fun r hc => .answered hc ?_
  rw [State.ledger_answer, hf, show (f r s).management.queue = s.management.queue from
    congrArg Ledger.queue (hf r)]

theorem serve_report {mine : Request → Bool} {check : State → Request → Option Result}
    {of : Request → State → Contents} :
    s.LedgerStep (s.serve mine check (State.report of)) :=
  serve_answer (f := fun _ s => s) fun _ => rfl

end State.LedgerStep

/-! ### Command by command -/

theorem execIntakeFrameTake_ledgerStep (c0 c1 c2 c3 : Option ChainFrame) :
    Keeps s.LedgerStep (execIntakeFrameTake c0 c1 c2 c3 s) := by
  refine keeps_next (.whenRunning (.same ?_))
  split
  · exact State.ledger_takeFrame ..
  · rfl

theorem execMergeEntryExpiry_ledgerStep (sensor : SensorId) (count : FrameCount) :
    Keeps s.LedgerStep (execMergeEntryExpiry sensor count s) := by
  refine keeps_next (.whenRunning (.same ?_))
  split
  · split
    · exact State.ledger_expire _
    · rfl
  · rfl

theorem execEstimateStart_ledgerStep : Keeps s.LedgerStep (execEstimateStart s) := by
  refine keeps_next (.whenRunning ?_)
  split
  · exact .startFrame _
  · exact .same rfl

theorem execManagementFrame_ledgerStep (body : List Byte) :
    Keeps s.LedgerStep (execManagementFrame body s) := by
  refine keeps_next (.whenRunning ?_)
  split
  · exact .arrive _
  · exact .same rfl

theorem execLoadWatchMask_ledgerStep : Keeps s.LedgerStep (execLoadWatchMask s) := by
  refine keeps_next (.serve fun r hc => ?_)
  split <;> exact .answered hc rfl

theorem execChangeTimeout_ledgerStep : Keeps s.LedgerStep (execChangeTimeout s) := by
  refine keeps_next (.whenRunning ?_)
  split
  · next c r rest hc hq =>
    split
    · exact .timedOut c hc State.ledger_givePlaces
    · exact .same rfl
  · exact .same rfl

theorem execTransmissionEnd_ledgerStep : Keeps s.LedgerStep (execTransmissionEnd s) := by
  refine keeps_next (.whenRunning (.same ?_))
  dsimp only
  split
  · exact State.ledger_arbitrate
  · rfl

theorem execGo_ledgerStep : Keeps s.LedgerStep (execGo s) := by
  refine keeps_next (.whenRunning (.same ?_))
  split
  · exact State.ledger_arbitrate
  · rfl

theorem execNoticeHoldExpiry_ledgerStep : Keeps s.LedgerStep (execNoticeHoldExpiry s) := by
  refine keeps_next (.whenRunning (.same ?_))
  split
  · exact State.ledger_arbitrate
  · rfl

theorem execSummaryTimerExpiry_ledgerStep : Keeps s.LedgerStep (execSummaryTimerExpiry s) := by
  refine keeps_next (.whenRunning (.same ?_))
  dsimp only
  split
  · split <;> rfl
  · rfl

theorem execBeaconLossExpiry_ledgerStep : Keeps s.LedgerStep (execBeaconLossExpiry s) := by
  refine keeps_next (.whenRunning (.same ?_))
  split <;> rfl

theorem execInboundFrameDiscarded_ledgerStep (bytes : List Byte) :
    Keeps s.LedgerStep (execInboundFrameDiscarded bytes s) := by
  refine keeps_next (.whenRunning (.same ?_))
  split <;> rfl

theorem execStoreWriteBegin_ledgerStep : Keeps s.LedgerStep (execStoreWriteBegin s) := by
  refine keeps_next (.same ?_)
  split <;> rfl

theorem execStoreWriteEnd_ledgerStep : Keeps s.LedgerStep (execStoreWriteEnd s) := by
  refine keeps_next (.same ?_)
  split <;> rfl

theorem execPowerLoss_ledgerStep : Keeps s.LedgerStep (execPowerLoss s) := by
  refine keeps_next (.same ?_)
  split <;> rfl

theorem execResetLineAssert_ledgerStep : Keeps s.LedgerStep (execResetLineAssert s) := by
  refine keeps_next ?_
  split
  · exact .same rfl
  · split
    · exact .restarted rfl
    · exact .same rfl

theorem execStartComplete_ledgerStep : Keeps s.LedgerStep (execStartComplete s) := by
  refine keeps_next (.same ?_)
  split
  · split <;> rfl
  · rfl

theorem whenRunning_grantIf_ledgerStep (cs : List Candidate) :
    Keeps s.LedgerStep (.next (s.whenRunning (State.grantIf cs))) :=
  keeps_next (.whenRunning (.same (State.ledger_grantIf cs)))

/-- Every command but the changes of the tables, a completion, the sweep and power-on. -/
theorem exec_ledgerStep (c : Instr) (hc : altersTables c = false) (hs : c ≠ .silenceSweep)
    (he : ∀ b, c ≠ .estimateCompletion b) : Keeps s.LedgerStep (exec c s) := by
  cases c with
  | intakeFrameTake c0 c1 c2 c3 => exact execIntakeFrameTake_ledgerStep c0 c1 c2 c3
  | mergeEntryExpiry sensor count => exact execMergeEntryExpiry_ledgerStep sensor count
  | admissionPlaceGrant => exact keeps_next (.whenRunning (.same State.ledger_givePlaces))
  | estimateStart => exact execEstimateStart_ledgerStep
  | estimateCompletion bin => exact absurd rfl (he bin)
  | silenceSweep => exact absurd rfl hs
  | managementFrame body => exact execManagementFrame_ledgerStep body
  | timeBeacon v => exact keeps_next (.whenRunning (.same rfl))
  | pause => exact keeps_next (.whenRunning (.same rfl))
  | go => exact execGo_ledgerStep
  | readPrefix | readDeviceByEntry | readDeviceBySensor | readBin | readProfile | readOutcomes
  | readCounters | readAuthority | readConfig => exact keeps_next .serve_report
  | requestDueList =>
    exact keeps_next (.serve_answer (f := fun _ s => s) fun _ => rfl)
  | readCountersReset | resetCounters | loadAuthority | storeConfig =>
    exact keeps_next (.serve fun _ hc => .answered hc rfl)
  | restart => exact keeps_next (.serve fun _ _ => .restarted rfl)
  | unknownOp => exact keeps_next (.serve fun _ _ => .same rfl)
  | loadWatchMask => exact execLoadWatchMask_ledgerStep
  | changeTimeout => exact execChangeTimeout_ledgerStep
  | transmissionEnd => exact execTransmissionEnd_ledgerStep
  | startGrant | responseGrant | noticeGrant | summaryGrant | catchUpSummary =>
    exact whenRunning_grantIf_ledgerStep _
  | noticeHoldExpiry => exact execNoticeHoldExpiry_ledgerStep
  | summaryTimerExpiry => exact execSummaryTimerExpiry_ledgerStep
  | beaconLossExpiry => exact execBeaconLossExpiry_ledgerStep
  | storeWriteBegin => exact execStoreWriteBegin_ledgerStep
  | storeWriteEnd => exact execStoreWriteEnd_ledgerStep
  | powerLoss => exact execPowerLoss_ledgerStep
  | resetLineAssert => exact execResetLineAssert_ledgerStep
  | resetLineRelease => exact keeps_next (.same rfl)
  | startComplete => exact execStartComplete_ledgerStep
  | inboundFrameDiscarded bytes => exact execInboundFrameDiscarded_ledgerStep bytes
  | loadPrefix | clearPrefix | loadDevice | clearDevice | loadBin | retireBin | clearDistrict
  | loadProfile | changeApplication | powerOn => cases hc

end Sys2Proof.Machine
end

section
/-! PROOFS. LOAD BIN, RETIRE BIN and CLEAR DISTRICT (R46 to R52): what each writes into the records,
the calibration entries, the device table and the collection-due queue. -/

namespace Sys2Proof.Machine

open Sys2Proof.Statements

variable {s t u : State} {r : Request}

/-! ### The state a calibration entry gives (R39, R47, R48) -/

theorem byCalibration_byCalibration (c : Option Int) (a : Assigned) :
    ByCalibration c (a.byCalibration c) := by
  cases c <;> exact ⟨rfl, rfl⟩

/-- The calibration entry gives state and offset and leaves the other fields. -/
theorem Assigned.byCalibration_frame (c : Option Int) (a : Assigned) : a.byCalibration c =
    { a with state := (a.byCalibration c).state, offset := (a.byCalibration c).offset } := by
  cases c <;> rfl

/-! ### Records and calibration entries that LOAD BIN writes (R47, R48) -/

/-- The calibration entry that the relearn option leaves (R47, R48). -/
theorem State.learned_unlearn (h : s.bins.calibration.wf = true) (b i : Nat) (f : Bool) :
    (if f then s.setLearned b none else s).learned i =
      if i = b ∧ f = true then none else s.learned i := by
  cases f with
  | false => simp
  | true => simpa using State.learned_setLearned h b i none

@[simp] theorem State.record_unlearn (b i : Nat) (f : Bool) :
    (if f then s.setLearned b none else s).record i = s.record i := by
  cases f <;> rfl

/-- A bin's record and unqueued flag after a removal (R117). -/
theorem State.record_handRemoval (h : s.bins.records.wf = true) (b i : Nat) :
    (s.handRemoval b).record i =
      if i = b then { s.record b with unqueued := false } else s.record i :=
  State.record_setRecord h ..

theorem State.record_setAssigned (h : s.bins.records.wf = true) (b i : Nat)
    (a : Option Assigned) : (s.setAssigned b a).record i =
      if i = b then { s.record b with assigned := a } else s.record i :=
  State.record_setRecord h ..

section Load
variable (b d p g : Nat) (f : Bool) (a : Assigned)

theorem State.record_loadEmpty (h : s.bins.records.wf = true) (i : Nat) :
    (s.loadEmpty b d p g f).record i = if i = b then
      { mapped := (s.record b).mapped
        unqueued := false
        assigned := some ((freshAssignment d p g s.time.seconds).byCalibration
          ((if f then s.setLearned b none else s).learned b)) }
    else s.record i := by
  unfold State.loadEmpty
  dsimp only
  rw [State.record_setRecord (by cases f <;> exact h), State.record_unlearn]

/-- What LOAD BIN on an EMPTY bin leaves (R47). -/
theorem State.loadEmpty_frame : s.loadEmpty b d p g f = { s with
    bins := { s.bins with records := (s.loadEmpty b d p g f).bins.records
                          calibration := (s.loadEmpty b d p g f).bins.calibration } } := by
  cases f <;> rfl

theorem State.learned_loadEmpty (i : Nat) : (s.loadEmpty b d p g f).learned i =
    (if f then s.setLearned b none else s).learned i := rfl

theorem State.record_loadReset (h : s.bins.records.wf = true) (i : Nat) :
    (s.loadReset b d p g f a).record i = if i = b then
      { mapped := (s.record b).mapped
        unqueued := false
        assigned := some
          ({ a with district := d, profile := p, generation := g }.reassigned
            ((if f then s.setLearned b none else s).learned b) s.time.seconds) }
    else s.record i := by
  have hu : (if f then s.setLearned b none else s).bins.records.wf = true := by
    cases f <;> exact h
  unfold State.loadReset
  dsimp only
  rw [State.record_handRemoval (Table.wf_set hu ..), State.record_setAssigned hu,
    State.record_setAssigned hu, State.record_unlearn, State.record_unlearn, if_pos rfl]
  split <;> rfl

/-- What LOAD BIN that resets a bin leaves (R48). -/
theorem State.loadReset_frame : s.loadReset b d p g f a = { s with
    bins := { s.bins with records := (s.loadReset b d p g f a).bins.records
                          calibration := (s.loadReset b d p g f a).bins.calibration }
    due := dropDue b s.due } := by
  cases f <;> rfl

theorem State.learned_loadReset (i : Nat) : (s.loadReset b d p g f a).learned i =
    (if f then s.setLearned b none else s).learned i := rfl

theorem State.record_loadKeep (h : s.bins.records.wf = true) (i : Nat) :
    (s.loadKeep b d g a).record i = if i = b then
      { s.record b with assigned := some { a with district := d, generation := g } }
    else s.record i := by
  unfold State.loadKeep
  dsimp only
  split <;> exact State.record_setAssigned h ..

theorem State.due_loadKeep : (s.loadKeep b d g a).due =
    s.due.map fun e => if e.bin = b ∧ a.district ≠ d then { e with district := d } else e := by
  unfold State.loadKeep
  dsimp only
  split
  · next hd => simp [hd]
  · next hd => simp [State.handDistrict, hd]

/-- What LOAD BIN that keeps a bin's state leaves (R48). -/
theorem State.loadKeep_frame : s.loadKeep b d g a = { s with
    bins := { s.bins with records := (s.loadKeep b d g a).bins.records }
    due := (s.loadKeep b d g a).due } := by
  unfold State.loadKeep
  dsimp only
  split <;> rfl

end Load

/-! ### LOAD BIN (R46 to R49) -/

theorem State.isSome_dueEntry (b : Nat) :
    (s.dueEntry b).isSome = s.due.any fun e => e.bin == b := by
  rw [State.dueEntry, Bool.eq_iff_iff, List.find?_isSome, List.any_eq_true]

/-- The calibration entry of its bin after LOAD BIN with the relearn option or without (R47). -/
theorem State.learned_relearned (h : s.bins.calibration.wf = true) (b i : Nat) :
    (if r.option 5 then s.setLearned b none else s).learned i =
      if i = b then (if r.arg8 5 % 2 = 1 then none else s.learned b) else s.learned i := by
  have bit : r.option 5 = true ↔ r.arg8 5 % 2 = 1 := decide_eq_true_iff
  rw [State.learned_unlearn h]
  by_cases hi : i = b <;> simp [hi, bit]

/-- LOAD BIN on an EMPTY bin makes it afresh (R47). -/
theorem binLoaded_of_empty (hr : s.bins.records.wf = true) (hc : s.bins.calibration.wf = true)
    (ha : s.assigned (r.arg16 0) = none) :
    BinLoaded s (applyLoadBin r s).1 r (applyLoadBin r s).2 (r.arg16 0)
      (decide (r.arg8 5 % 2 = 1)) (if r.arg8 5 % 2 = 1 then none else s.learned (r.arg16 0)) := by
  have record := s.record_loadEmpty (r.arg16 0) (r.arg8 2) (r.arg8 3) (r.arg8 4) (r.option 5) hr
  have learned := fun i => (s.learned_loadEmpty (r.arg16 0) (r.arg8 2) (r.arg8 3) (r.arg8 4)
    (r.option 5) i).trans (State.learned_relearned hc (r.arg16 0) i)
  have frame := s.loadEmpty_frame (r.arg16 0) (r.arg8 2) (r.arg8 3) (r.arg8 4) (r.option 5)
  simp only [State.learned_relearned hc, if_true] at record
  unfold applyLoadBin
  dsimp only
  rw [ha]
  dsimp only
  generalize s.loadEmpty (r.arg16 0) (r.arg8 2) (r.arg8 3) (r.arg8 4) (r.option 5) = t at *
  generalize (if r.arg8 5 % 2 = 1 then none else s.learned (r.arg16 0)) = c at *
  have own : t.record (r.arg16 0) = _ := (record _).trans (if_pos rfl)
  have held := congrArg BinRecord.assigned own
  generalize hn : (freshAssignment (r.arg8 2) (r.arg8 3) (r.arg8 4)
    s.time.seconds).byCalibration c = n at *
  have fresh : n = { freshAssignment (r.arg8 2) (r.arg8 3) (r.arg8 4) s.time.seconds with
      state := n.state, offset := n.offset } := hn ▸ Assigned.byCalibration_frame c _
  refine ⟨by rw [frame], by rw [frame], by rw [frame],
    fun i hi => ⟨(record i).trans (if_neg hi), (learned i).trans (if_neg hi)⟩, by rw [own], n, held,
    by rw [fresh]; rfl, by rw [fresh]; rfl, by rw [fresh]; rfl, fun _ => ?_, fun a ha' => ?_,
    fun a ha' => ?_⟩
  · refine ⟨?_, hn ▸ byCalibration_byCalibration c _, by rw [fresh]; rfl, by rw [fresh]; rfl,
      by rw [fresh]; rfl, by rw [fresh]; rfl, by rw [fresh]; rfl, by rw [fresh]; rfl, by rw [own],
      (learned _).trans (if_pos rfl), by rw [frame], by rw [own]; rfl⟩
    rw [fresh]
    exact ⟨rfl, rfl, rfl, rfl, rfl, rfl, rfl, rfl⟩
  · rw [ha] at ha'
    cases ha'
  · rw [ha] at ha'
    cases ha'

/-- LOAD BIN with the relearn option or another profile resets an assigned bin (R48). -/
theorem binLoaded_of_reset (hr : s.bins.records.wf = true) (hc : s.bins.calibration.wf = true)
    {a : Assigned} (ha : s.assigned (r.arg16 0) = some a)
    (hres : resetsBin a (r.arg8 3) (r.option 5) = true) :
    BinLoaded s (applyLoadBin r s).1 r (applyLoadBin r s).2 (r.arg16 0)
      (decide (r.arg8 5 % 2 = 1)) (if r.arg8 5 % 2 = 1 then none else s.learned (r.arg16 0)) := by
  have record := s.record_loadReset (r.arg16 0) (r.arg8 2) (r.arg8 3) (r.arg8 4) (r.option 5) a hr
  have learned := fun i => (s.learned_loadReset (r.arg16 0) (r.arg8 2) (r.arg8 3) (r.arg8 4)
    (r.option 5) a i).trans (State.learned_relearned hc (r.arg16 0) i)
  have frame := s.loadReset_frame (r.arg16 0) (r.arg8 2) (r.arg8 3) (r.arg8 4) (r.option 5) a
  simp only [State.learned_relearned hc, if_true] at record
  unfold applyLoadBin
  dsimp only
  rw [ha]
  dsimp only
  rw [if_pos hres, hres, Bool.true_and, State.isSome_dueEntry]
  generalize s.loadReset (r.arg16 0) (r.arg8 2) (r.arg8 3) (r.arg8 4) (r.option 5) a = t at *
  generalize (if r.arg8 5 % 2 = 1 then none else s.learned (r.arg16 0)) = c at *
  have own : t.record (r.arg16 0) = _ := (record _).trans (if_pos rfl)
  have held := congrArg BinRecord.assigned own
  generalize hn : Assigned.reassigned { a with
    district := r.arg8 2, profile := r.arg8 3, generation := r.arg8 4 } c s.time.seconds = n at *
  have again : n = { a.clearFill with
      district := r.arg8 2, profile := r.arg8 3, generation := r.arg8 4, samples := []
      lastHeard := s.time.seconds, state := n.state, offset := n.offset } :=
    hn ▸ Assigned.byCalibration_frame c _
  refine ⟨by rw [frame], by rw [frame], by rw [frame],
    fun i hi => ⟨(record i).trans (if_neg hi), (learned i).trans (if_neg hi)⟩, by rw [own], n, held,
    by rw [again], by rw [again], by rw [again], fun ha' => ?_, fun a' ha' _ => ?_,
    fun a' ha' hf hp => ?_⟩
  · rw [ha] at ha'
    cases ha'
  · rw [ha] at ha'
    cases ha'
    refine ⟨?_, hn ▸ byCalibration_byCalibration c _, by rw [again], ?_, by rw [again]; rfl,
      by rw [own], (learned _).trans (if_pos rfl), by rw [frame]; rfl, by rw [own]; rfl⟩
    · rw [again]
      exact ⟨rfl, rfl, rfl, rfl, rfl, rfl, rfl, rfl⟩
    · rw [again]
      exact ⟨rfl, rfl, rfl, rfl⟩
  · rw [ha] at ha'
    cases ha'
    simp [resetsBin, Request.option, hp, show ¬ byteAt r.args 5 % 2 = 1 from
      of_decide_eq_false hf] at hres

/-- LOAD BIN with neither keeps the state of an assigned bin (R48). -/
theorem binLoaded_of_keep (hr : s.bins.records.wf = true) {a : Assigned}
    (ha : s.assigned (r.arg16 0) = some a)
    (hres : resetsBin a (r.arg8 3) (r.option 5) = false) :
    BinLoaded s (applyLoadBin r s).1 r (applyLoadBin r s).2 (r.arg16 0)
      (decide (r.arg8 5 % 2 = 1)) (if r.arg8 5 % 2 = 1 then none else s.learned (r.arg16 0)) := by
  have record := s.record_loadKeep (r.arg16 0) (r.arg8 2) (r.arg8 4) a hr
  have due := s.due_loadKeep (r.arg16 0) (r.arg8 2) (r.arg8 4) a
  have frame := s.loadKeep_frame (r.arg16 0) (r.arg8 2) (r.arg8 4) a
  obtain ⟨hf, hp⟩ : r.option 5 = false ∧ a.profile = r.arg8 3 := by
    simpa [resetsBin] using hres
  unfold applyLoadBin
  dsimp only
  rw [ha]
  dsimp only
  rw [hres, if_neg Bool.false_ne_true, Bool.false_and]
  generalize s.loadKeep (r.arg16 0) (r.arg8 2) (r.arg8 4) a = t at *
  have own : t.record (r.arg16 0) = _ := (record _).trans (if_pos rfl)
  have learned : ∀ i, t.learned i = s.learned i := fun i => by rw [frame]; rfl
  refine ⟨by rw [frame], by rw [frame], by rw [frame],
    fun i hi => ⟨(record i).trans (if_neg hi), learned i⟩, by rw [own], _,
    congrArg BinRecord.assigned own, rfl, hp, rfl, fun ha' => ?_, fun a' ha' hor => ?_,
    fun a' ha' _ _ => ?_⟩
  · rw [ha] at ha'
    cases ha'
  · rw [ha] at ha'
    cases ha'
    rcases hor with hor | hor
    · cases hor.symm.trans hf
    · exact absurd hp hor
  · rw [ha] at ha'
    cases ha'
    exact ⟨⟨rfl, rfl, rfl, rfl, rfl, rfl, rfl, rfl⟩, rfl, rfl, rfl, ⟨rfl, rfl, rfl, rfl⟩, rfl,
      by rw [own], learned _, due, by rw [own]; rfl⟩

/-- LOAD BIN assigns an EMPTY bin, resets an assigned one, or keeps its state (R47 to R49). -/
theorem applyLoadBin_binLoaded (hr : s.bins.records.wf = true)
    (hc : s.bins.calibration.wf = true) :
    BinLoaded s (applyLoadBin r s).1 r (applyLoadBin r s).2 (r.arg16 0)
      (decide (r.arg8 5 % 2 = 1)) (if r.arg8 5 % 2 = 1 then none else s.learned (r.arg16 0)) := by
  cases ha : s.assigned (r.arg16 0) with
  | none => exact binLoaded_of_empty hr hc ha
  | some a =>
    cases hres : resetsBin a (r.arg8 3) (r.option 5) with
    | true => exact binLoaded_of_reset hr hc ha hres
    | false => exact binLoaded_of_keep hr ha hres

theorem State.SameTables.binLoaded {x : Contents} {b : Nat} {f : Bool} {c : Option Int}
    (h : u.SameTables t) (hb : BinLoaded s u r x b f c) : BinLoaded s t r x b f c := by
  unfold BinLoaded State.assigned State.learned State.record at *
  rwa [h.translation, h.bins, h.profiles, h.due]

/-- Settles O34: with nothing in flight in its districts the change is made in its own command, and
it makes the bin afresh, resets it, or keeps its state. -/
theorem loadBinAssignsResetsOrKeeps : Obligations.LoadBinAssignsResetsOrKeeps := by
  intro s r b relearn learned hcan hd hb hf hl hp
  subst hb hf
  have ho := hp.2.1
  obtain ⟨t, he, hs, ht⟩ := exec_change_settled (by decide) hcan hd hp
  rw [headCommand, ho] at he
  rw [applyChange, ho] at hs ht
  simp only [decide_eq_true_eq] at hl
  exact ⟨t, _, he, hs, ht.binLoaded (hl ▸ applyLoadBin_binLoaded
    (Table.wf_of_canonical hcan.records) hcan.calibration)⟩

end Sys2Proof.Machine
end

section
/-! PROOFS. RETIRE BIN and CLEAR DISTRICT (R50 to R52): what the retirement of some bins leaves of
the records, the calibration entries, the device table and the collection-due queue. -/

namespace Sys2Proof.Machine

open Sys2Proof.Statements

variable {s t u : State} {r : Request}

/-! ### One retirement (R50) -/

theorem State.learned_retire (h : s.bins.calibration.wf = true) (b i : Nat) (f : Bool) :
    (s.retire b f).learned i = if i = b ∧ f = true then none else s.learned i := by
  unfold State.retire
  dsimp only
  cases (s.record b).mapped with
  | none => exact State.learned_unlearn h b i f
  | some e => exact State.learned_unlearn (s := s.setDevice e none) h b i f

theorem State.due_retire (b : Nat) (f : Bool) : (s.retire b f).due = dropDue b s.due := by
  unfold State.retire
  cases (s.record b).mapped <;> cases f <;> rfl

theorem State.sweepDue_retire (b : Nat) (f : Bool) :
    (s.retire b f).bins.sweepDue = s.bins.sweepDue := by
  unfold State.retire
  cases (s.record b).mapped <;> cases f <;> rfl

/-- The tables that a retirement writes stay in canonical form. -/
theorem State.retire_wf (hd : s.translation.devices.wf = true) (hr : s.bins.records.wf = true)
    (hc : s.bins.calibration.wf = true) (b : Nat) (f : Bool) :
    (s.retire b f).translation.devices.wf = true ∧ (s.retire b f).bins.records.wf = true ∧
      (s.retire b f).bins.calibration.wf = true := by
  have records := Table.wf_set hr
  have devices := fun e => Table.wf_set hd e none
  have calibration := Table.wf_set hc b none
  unfold State.retire
  cases (s.record b).mapped <;> cases f
  · exact ⟨hd, records .., hc⟩
  · exact ⟨hd, records .., calibration⟩
  · exact ⟨devices _, records .., hc⟩
  · exact ⟨devices _, records .., calibration⟩

/-! ### Some bins retired (R50, R51) -/

/-- From `s` to `t` the bins of a list have been retired, with the calibration option or without. -/
structure State.BinsRetired (s t : State) (bins : List Nat) (f : Bool) : Prop where
  prefixes : t.translation.prefixes = s.translation.prefixes
  profiles : t.profiles = s.profiles
  sweepDue : t.bins.sweepDue = s.bins.sweepDue
  due : t.due = s.due.filter fun e => decide (e.bin ∉ bins)
  record : ∀ i, t.record i = if i ∈ bins then .vacant else s.record i
  learned : ∀ i, t.learned i = if i ∈ bins ∧ f = true then none else s.learned i
  device : ∀ i, t.device i =
    if ∃ b ∈ bins, (s.record b).mapped = some i then none else s.device i

theorem State.BinsRetired.cons {b : Nat} {rest : List Nat} {f : Bool}
    (hd : s.translation.devices.wf = true) (hr : s.bins.records.wf = true)
    (hc : s.bins.calibration.wf = true) (h : (s.retire b f).BinsRetired t rest f) :
    s.BinsRetired t (b :: rest) f where
  prefixes := h.prefixes.trans (State.retire_frame b f).1
  profiles := h.profiles.trans (State.retire_frame b f).2
  sweepDue := h.sweepDue.trans (State.sweepDue_retire b f)
  due := by
    rw [h.due, State.due_retire, dropDue, List.filter_filter]
    refine List.filter_congr fun e _ => ?_
    rw [Bool.eq_iff_iff]
    simp [and_comm]
  record i := by
    rw [h.record, State.record_retire hr]
    by_cases hi : i = b <;> simp [hi]
  learned i := by
    rw [h.learned, State.learned_retire hc]
    by_cases hi : i = b <;> cases f <;> simp [hi]
  device i := by
    have other : (∃ x ∈ rest, ((s.retire b f).record x).mapped = some i) ↔
        ∃ x ∈ rest, x ≠ b ∧ (s.record x).mapped = some i := by
      refine exists_congr fun x => and_congr_right fun _ => ?_
      rw [State.record_retire hr]
      by_cases hx : x = b <;> simp [hx, BinRecord.vacant]
    rw [h.device, State.device_retire hd]
    by_cases hb : (s.record b).mapped = some i
    · simp [hb]
    · simp only [other, hb, if_false, List.mem_cons, exists_eq_or_imp, false_or]
      refine if_congr (exists_congr fun x => and_congr_right fun _ => ?_) rfl rfl
      exact and_iff_right_of_imp fun hx hxb => hb (hxb ▸ hx)

/-- Retirements made one after another. -/
theorem State.binsRetired_foldl (hd : s.translation.devices.wf = true)
    (hr : s.bins.records.wf = true) (hc : s.bins.calibration.wf = true) (bins : List Nat)
    (f : Bool) : s.BinsRetired (bins.foldl (fun t b => t.retire b f) s) bins f := by
  induction bins generalizing s with
  | nil => exact ⟨rfl, rfl, rfl, by simp, by simp, by simp, by simp⟩
  | cons b rest ih =>
    obtain ⟨hd', hr', hc'⟩ := State.retire_wf hd hr hc b f
    exact .cons hd hr hc (ih hd' hr' hc')

/-! ### The listed records -/

/-- A listed record is the record of its bin. -/
theorem State.record_of_mem (h : s.bins.records.wf = true) {x : Nat × BinRecord}
    (hx : x ∈ s.bins.records.entries) : s.record x.1 = x.2 := by
  rw [State.record, Table.read, (Table.get_eq_some h x.1 x.2).2 hx]
  rfl

/-- An assigned bin has its record listed. -/
theorem State.mem_of_assigned {b : Nat} {a : Assigned} (ha : s.assigned b = some a) :
    (b, s.record b) ∈ s.bins.records.entries := by
  rw [State.assigned, State.record, Table.read] at ha
  rw [State.record, Table.read]
  cases hg : s.bins.records.get b with
  | none =>
    rw [hg] at ha
    cases ha
  | some x => exact mem_of_findEntry hg

theorem State.mem_binsOf (h : s.bins.records.wf = true) {b d : Nat} :
    b ∈ s.binsOf d ↔ (s.assigned b).any (fun a => a.district == d) = true := by
  unfold State.binsOf
  simp only [List.mem_map, List.mem_filter]
  constructor
  · rintro ⟨x, ⟨hx, hd⟩, rfl⟩
    rw [State.assigned, State.record_of_mem h hx]
    cases hx : x.2.assigned with
    | none => rw [hx] at hd; cases hd
    | some a => rw [hx] at hd; exact hd
  · intro hd
    cases ha : s.assigned b with
    | none => rw [ha] at hd; cases hd
    | some a =>
      refine ⟨_, ⟨State.mem_of_assigned ha, ?_⟩, rfl⟩
      have hr : (s.record b).assigned = some a := ha
      rw [ha] at hd
      rw [hr]
      exact hd

theorem State.length_binsOf (d : Nat) :
    (s.binsOf d).length = s.countBins fun a => a.district == d :=
  List.length_map ..

/-- The device entries that CLEAR DISTRICT makes invalid, counted in the listed records. -/
theorem State.length_mapped_binsOf (h : s.bins.records.wf = true) (d : Nat) :
    ((s.binsOf d).filter fun b => (s.record b).mapped.isSome).length =
      (s.bins.records.entries.filter fun x =>
        x.2.mapped.isSome && x.2.assigned.any fun a => a.district == d).length := by
  unfold State.binsOf
  rw [List.filter_map, List.length_map, List.filter_filter]
  refine congrArg List.length (List.filter_congr fun x hx => ?_)
  rw [Function.comp_apply, State.record_of_mem h hx]
  cases x.2.assigned <;> rfl

/-! ### RETIRE BIN and CLEAR DISTRICT (R50, R51) -/

theorem applyRetireBin_binRetired (hd : s.translation.devices.wf = true)
    (hr : s.bins.records.wf = true) (hc : s.bins.calibration.wf = true) :
    BinRetired s (applyRetireBin r s).1 r (applyRetireBin r s).2 (r.arg16 0) := by
  have h := State.binsRetired_foldl hd hr hc [r.arg16 0] (r.option 2)
  have bit : r.option 2 = true ↔ r.arg8 2 % 2 = 1 := decide_eq_true_iff
  have gone : s.due.filter (fun e => decide (e.bin ∉ [r.arg16 0])) =
      s.due.filter fun e => e.bin != r.arg16 0 :=
    List.filter_congr fun e _ => by rw [Bool.eq_iff_iff]; simp
  refine ⟨rfl, h.prefixes, h.profiles, h.sweepDue, h.due.trans gone, fun i => ?_, fun i => ?_,
    fun i => ?_⟩
  · exact (h.record i).trans (if_congr List.mem_singleton rfl rfl)
  · exact (h.learned i).trans (if_congr (and_congr List.mem_singleton bit) rfl rfl)
  · exact (h.device i).trans (if_congr (by simp) rfl rfl)

theorem applyClearDistrict_districtCleared (hd : s.translation.devices.wf = true)
    (hr : s.bins.records.wf = true) (hc : s.bins.calibration.wf = true) :
    DistrictCleared s (applyClearDistrict r s).1 r (applyClearDistrict r s).2 (r.arg8 0) := by
  have h := State.binsRetired_foldl hd hr hc (s.binsOf (r.arg8 0)) (r.option 1)
  have bit : r.option 1 = true ↔ r.arg8 1 % 2 = 1 := decide_eq_true_iff
  have mem := fun b => State.mem_binsOf hr (b := b) (d := r.arg8 0)
  refine ⟨?_, h.prefixes, h.profiles, h.sweepDue, ?_, fun i => ?_, fun i => ?_, fun i hi => ?_,
    fun i hi => ?_⟩
  · exact congrArg₂ Contents.districtCleared (State.length_binsOf _)
      (State.length_mapped_binsOf hr _)
  · exact h.due.trans (List.filter_congr fun e _ => by simp [mem e.bin])
  · exact (h.record i).trans (if_congr (mem i) rfl rfl)
  · exact (h.learned i).trans (if_congr (and_congr (mem i) bit) rfl rfl)
  · obtain ⟨b, hm, hb⟩ := hi
    exact (h.device i).trans (if_pos ⟨b, (mem b).2 hb, hm⟩)
  · refine (h.device i).trans (if_neg ?_)
    rintro ⟨b, hb, hm⟩
    cases ((mem b).1 hb).symm.trans (hi b hm)

theorem State.SameTables.binRetired {x : Contents} {b : Nat} (h : u.SameTables t)
    (hb : BinRetired s u r x b) : BinRetired s t r x b := by
  unfold BinRetired State.learned State.device State.record at *
  rwa [h.translation, h.bins, h.profiles, h.due]

theorem State.SameTables.districtCleared {x : Contents} {d : Nat} (h : u.SameTables t)
    (hd : DistrictCleared s u r x d) : DistrictCleared s t r x d := by
  unfold DistrictCleared State.learned State.device State.record at *
  rwa [h.translation, h.bins, h.profiles, h.due]

/-- Settles O35: with nothing in flight in its districts the change is made in its own command, and
it retires the bin, or every bin of the district. -/
theorem retiredBinsBecomeEmpty : Obligations.RetiredBinsBecomeEmpty := by
  intro s r hcan hd
  have hr := Table.wf_of_canonical hcan.records
  refine ⟨fun hp => ?_, fun hp => ?_⟩
  all_goals
    have ho := hp.2.1
    obtain ⟨t, he, hs, ht⟩ := exec_change_settled (by decide) hcan hd hp
    rw [headCommand, ho] at he
    rw [applyChange, ho] at hs ht
  · exact ⟨t, _, he, hs,
      ht.binRetired (applyRetireBin_binRetired hcan.devices hr hcan.calibration)⟩
  · exact ⟨t, _, he, hs,
      ht.districtCleared (applyClearDistrict_districtCleared hcan.devices hr hcan.calibration)⟩

end Sys2Proof.Machine
end

section
/-! PROOFS. Every step keeps the gates CHANGING exactly for the pending change, the pending change as
it was checked, and every bin in flight in its district (R35, R100, R103, R104, R161). -/

namespace Sys2Proof.Machine

open Sys2Proof.Statements

variable {s t u : State} {r : Request}

/-! ### Gates, pending change, queue and slots as a completion and a sweep leave them -/

/-- The outcome of a completion is counted in the tallies alone (R99). -/
theorem State.tallyCompletion_frame (row : Nat) (l : List FlagDetail) (s : State) :
    s.tallyCompletion row l =
      { s with gates := { s.gates with tallies := (s.tallyCompletion row l).gates.tallies } } := by
  unfold State.tallyCompletion
  split
  · rfl
  · rw [Gates.foldl_tallyUp]
    rfl

/-- From `s` to `t` the gates' states, the pending change and the management queue stay, and no
estimate starts. -/
structure State.KeepsControl (s t : State) : Prop where
  states : t.gates.states = s.gates.states
  change : t.gates.change = s.gates.change
  queue : t.management.queue = s.management.queue
  slots : ∀ e ∈ t.slots, e ∈ s.slots

namespace State.KeepsControl

theorem refl (s : State) : s.KeepsControl s := ⟨rfl, rfl, rfl, fun _ => id⟩

theorem trans (h : s.KeepsControl t) (h' : t.KeepsControl u) : s.KeepsControl u :=
  ⟨h'.states.trans h.states, h'.change.trans h.change, h'.queue.trans h.queue,
    fun e he => h.slots e (h'.slots e he)⟩

theorem foldl {α : Type} {f : State → α → State}
    (step : ∀ (s : State) (a : α), s.KeepsControl (f s a)) (l : List α) (s : State) :
    s.KeepsControl (l.foldl f s) := by
  induction l generalizing s with
  | nil => exact refl s
  | cons a rest ih => exact (step s a).trans (ih (f s a))

theorem tablesStep (h : s.TablesStep t) : s.KeepsControl t := by
  rw [h.frame]
  exact ⟨rfl, rfl, rfl, fun _ => id⟩

theorem raiseGroup (es : List Event) : s.KeepsControl (s.raiseGroup es) :=
  ⟨rfl, rfl, rfl, fun _ => id⟩

theorem tallyCompletion (row : Nat) (l : List FlagDetail) :
    s.KeepsControl (s.tallyCompletion row l) := by
  rw [State.tallyCompletion_frame]
  exact ⟨rfl, rfl, rfl, fun _ => id⟩

theorem vacate (e : Estimate) : s.KeepsControl (s.vacate e) :=
  ⟨rfl, rfl, rfl, fun _ => List.mem_of_mem_filter⟩

end State.KeepsControl

/-- What a completion writes and hands over, before its outcome is tallied (R72, R75). -/
def State.handedOver (e : Estimate) (c : Completion) (s : State) : State :=
  let t := (s.setAssigned e.frame.bin (some c.record)).setLearned e.frame.bin c.learned
  (if c.clearSilent then t.handSilent e.frame.bin false else t).handDue e.frame.bin e.district c.due

theorem State.applyCompletion_eq (e : Estimate) (c : Completion) (s : State) :
    s.applyCompletion e c = State.vacate e (State.raiseGroup (completionEvents e c)
      ((s.handedOver e c).tallyCompletion e.district c.details)) := rfl

theorem State.TablesStep.handedOver (e : Estimate) (c : Completion) :
    s.TablesStep (s.handedOver e c) := by
  have cleared : ∀ v : State, v.TablesStep
      (if c.clearSilent then v.handSilent e.frame.bin false else v) := by
    intro v
    split
    · exact .handSilent _ _
    · exact .refl v
  exact (((State.TablesStep.setRecord _ _).trans (.setLearned _ _)).trans (cleared _)).trans
    (.handDue e.frame.bin e.district c.due)

namespace State.KeepsControl

theorem of_ledger (h : t.ledger = s.ledger) : s.KeepsControl t where
  states := congrArg Ledger.states h
  change := congrArg Ledger.change h
  queue := congrArg Ledger.queue h
  slots _ he := (show t.slots = s.slots from congrArg Ledger.slots h) ▸ he

theorem complete (e : Estimate) : s.KeepsControl (s.complete e) := by
  unfold State.complete
  split
  · rw [State.applyCompletion_eq]
    exact (((tablesStep (.handedOver e _)).trans (tallyCompletion ..)).trans (raiseGroup _)).trans
      (vacate e)
  · exact vacate e

theorem sweepBin (b : Nat) : s.KeepsControl (s.sweepBin b) := by
  unfold State.sweepBin State.makeSilent
  split
  · next a _ =>
    split
    · dsimp only
      split
      · exact (tablesStep ((State.TablesStep.setRecord _ _).trans (.handSilent b true))).trans
          (raiseGroup _)
      · exact (tablesStep (.setRecord _ _)).trans (raiseGroup _)
    · exact refl s
  · exact refl s

theorem whenRunning {f : State → State} (h : s.KeepsControl (f s)) :
    s.KeepsControl (s.whenRunning f) := by
  unfold State.whenRunning
  split
  · exact h
  · exact refl s

end State.KeepsControl

theorem execEstimateCompletion_keepsControl (bin : Nat) :
    Keeps s.KeepsControl (execEstimateCompletion bin s) := by
  refine keeps_next (.whenRunning ?_)
  split
  · exact .complete _
  · exact .refl s

theorem execSilenceSweep_keepsControl : Keeps s.KeepsControl (execSilenceSweep s) := by
  refine keeps_next (.whenRunning ?_)
  dsimp only
  split
  · split
    · exact (State.KeepsControl.foldl (fun _ b => .sweepBin b) _ s).trans (.tablesStep ⟨rfl, id⟩)
    · exact .refl s
  · exact .refl s

/-! ### The invariant -/

/-- The gates, the pending change and the bins in flight agree, as one property. -/
structure State.FlightsGuarded (s : State) : Prop where
  gates : s.GatesSound
  pending : s.PendingSound
  flights : s.FlightsSound

theorem State.GatesSound.of_eq (h : s.GatesSound) (hs : t.gates.states = s.gates.states)
    (hc : t.gates.change = s.gates.change) : t.GatesSound := by
  unfold State.GatesSound Gates.state at *
  rwa [hs, hc]

theorem State.GatesSound.of_none (hc : t.gates.change = none)
    (ho : ∀ d, t.gates.state d ≠ .changing) : t.GatesSound := by
  refine fun d => ⟨fun h => absurd h (ho d), ?_⟩
  rintro ⟨c, h, -⟩
  cases hc.symm.trans h

/-- Beside the districts of a pending change no gate is CHANGING. -/
theorem State.GatesSound.not_changing (h : s.GatesSound) {ds : List Nat}
    (hc : ∀ c, s.gates.change = some c → c.districts = ds) {d : Nat} (hd : d ∉ ds) :
    s.gates.state d ≠ .changing := by
  intro hg
  obtain ⟨c, hcc, hm⟩ := (h d).1 hg
  exact hd (hc c hcc ▸ hm)

theorem State.PendingSound.of_none (hc : t.gates.change = none) : t.PendingSound := by
  intro c h
  cases hc.symm.trans h

/-- A bin keeps the districts it adds to a gate set where it keeps its placing. -/
theorem State.KeepsAssignments.districtsOfBin (k : s.KeepsAssignments t)
    (hw : s.bins.records.wf = true) (b : Nat) : t.districtsOfBin b = s.districtsOfBin b := by
  have hp := k.placing hw b
  have listed : ∀ u : State, u.districtsOfBin b =
      (((u.assigned b).map Assigned.placing).map (·.1)).toList := by
    intro u
    unfold State.districtsOfBin
    cases u.assigned b <;> rfl
  rw [listed, listed, hp]

theorem State.KeepsAssignments.gateSet (k : s.KeepsAssignments t)
    (hw : s.bins.records.wf = true) (r : Request) : t.gateSet r = s.gateSet r := by
  have device : ∀ e, t.device e = s.device e := fun e => by simp only [State.device, k.translation]
  simp only [State.gateSet, State.loadDeviceGates, State.clearDeviceGates, State.loadBinGates,
    k.districtsOfBin hw, device]

theorem State.KeepsAssignments.changeFits (k : s.KeepsAssignments t) (r : Request) :
    t.changeFits r = s.changeFits r := by
  simp only [State.changeFits, State.namedElsewhere, k.translation, k.profiles]

/-- The pending change stays as it was checked where the tables it was checked against stay (R161). -/
theorem State.PendingSound.keeps (h : s.PendingSound) (hw : s.bins.records.wf = true)
    (k : s.KeepsAssignments t) (hc : t.gates.change = s.gates.change)
    (hq : s.management.queue <+: t.management.queue) : t.PendingSound := by
  intro c hcc
  obtain ⟨r, rest, hr, hf, hd⟩ := h c (hc ▸ hcc)
  obtain ⟨more, hm⟩ := hq
  exact ⟨r, rest ++ more, by rw [← hm, hr]; rfl, by rw [k.changeFits, hf],
    by rw [k.gateSet hw, hd]⟩

/-- An assigned bin keeps its district where it keeps its placing. -/
theorem State.KeepsAssignments.district (k : s.KeepsAssignments t)
    (hw : s.bins.records.wf = true) {b : Nat} {a : Assigned} (ha : s.assigned b = some a) :
    ∃ a', t.assigned b = some a' ∧ a'.district = a.district := by
  have hp := k.placing hw b
  rw [ha, Option.map_some, Option.map_eq_some_iff] at hp
  obtain ⟨a', ha', hp⟩ := hp
  simp only [Assigned.placing, Prod.mk.injEq] at hp
  exact ⟨a', ha', hp.1⟩

theorem State.FlightsSound.keeps (h : s.FlightsSound) (hw : s.bins.records.wf = true)
    (k : s.KeepsAssignments t) (hs : ∀ e ∈ t.slots, e ∈ s.slots) : t.FlightsSound := by
  intro e he
  obtain ⟨a, ha, hd⟩ := h e (hs e he)
  obtain ⟨a', ha', hd'⟩ := k.district hw ha
  exact ⟨a', ha', hd'.trans hd⟩

namespace State.FlightsGuarded

theorem keeps (h : s.FlightsGuarded) (hw : s.bins.records.wf = true) (k : s.KeepsAssignments t)
    (c : s.KeepsControl t) : t.FlightsGuarded :=
  ⟨h.gates.of_eq c.states c.change,
    h.pending.keeps hw k c.change (c.queue ▸ List.prefix_refl _), h.flights.keeps hw k c.slots⟩

/-- The gates of a waiting change reopen and no other gate is CHANGING. -/
theorem reopened (h : s.GatesSound) (hw : s.gates.states.wf = true) {c : PendingChange}
    (hc : s.gates.change = some c) (d : Nat) :
    (s.gates.setStates c.districts .opened).state d ≠ .changing := by
  rw [Gates.state_setStates hw]
  split
  · exact fun h => by cases h
  · next hd => exact h.not_changing (fun c' hc' => by cases hc.symm.trans hc'; rfl) hd

end State.FlightsGuarded

/-! ### Commands that change no table -/

theorem State.LedgerStep.tables (h : s.LedgerStep t) : t.tables = s.tables := by
  have same : t.ledger.translation = s.ledger.translation ∧ t.ledger.records = s.ledger.records ∧
      t.ledger.profiles = s.ledger.profiles := by
    cases h with
    | same h | joined _ h | answered _ h | started _ _ _ _ h | timedOut _ _ h | restarted h =>
      rw [h]
      exact ⟨rfl, rfl, rfl⟩
  obtain ⟨ht, hr, hp⟩ := same
  exact Prod.ext ht (Prod.ext hr hp)

theorem State.FlightsGuarded.ledgerStep (h : s.FlightsGuarded) (hcan : s.Canonical)
    (hl : s.LedgerStep t) : t.FlightsGuarded := by
  have k := State.KeepsAssignments.of_tables hl.tables
  have hw := Table.wf_of_canonical hcan.records
  cases hl with
  | same ht => exact h.keeps hw k (.of_ledger ht)
  | joined r ht =>
    have slots : t.slots = s.slots := congrArg Ledger.slots ht
    have queue : t.management.queue = s.management.queue ++ [r] := congrArg Ledger.queue ht
    exact ⟨h.gates.of_eq (congrArg Ledger.states ht) (congrArg Ledger.change ht),
      h.pending.keeps hw k (congrArg Ledger.change ht) (queue ▸ List.prefix_append ..),
      h.flights.keeps hw k fun e he => slots ▸ he⟩
  | answered hc ht =>
    have slots : t.slots = s.slots := congrArg Ledger.slots ht
    have change : t.gates.change = s.gates.change := congrArg Ledger.change ht
    exact ⟨h.gates.of_eq (congrArg Ledger.states ht) change, .of_none (change.trans hc),
      h.flights.keeps hw k fun e he => slots ▸ he⟩
  | started e a ha hd ht =>
    have slots : t.slots = s.slots ++ [e] := congrArg Ledger.slots ht
    have queue : t.management.queue = s.management.queue := congrArg Ledger.queue ht
    refine ⟨h.gates.of_eq (congrArg Ledger.states ht) (congrArg Ledger.change ht),
      h.pending.keeps hw k (congrArg Ledger.change ht) (queue ▸ List.prefix_refl _),
      fun x hx => ?_⟩
    have started : ∃ a, s.assigned x.frame.bin = some a ∧ a.district = x.district := by
      rw [slots, List.mem_append, List.mem_singleton] at hx
      rcases hx with hx | rfl
      · exact h.flights x hx
      · exact ⟨a, ha, hd⟩
    obtain ⟨b, hb, hbd⟩ := started
    obtain ⟨b', hb', hbd'⟩ := k.district hw hb
    exact ⟨b', hb', hbd'.trans hbd⟩
  | timedOut c hc ht =>
    have slots : t.slots = s.slots := congrArg Ledger.slots ht
    have states : t.gates.states = _ := congrArg Ledger.states ht
    have change : t.gates.change = none := congrArg Ledger.change ht
    refine ⟨.of_none change fun d => ?_, .of_none change, h.flights.keeps hw k fun e he => slots ▸ he⟩
    rw [Gates.state, states]
    exact State.FlightsGuarded.reopened h.gates (Table.wf_of_canonical hcan.gates) hc d
  | restarted ht =>
    have slots : t.slots = [] := congrArg Ledger.slots ht
    have states : t.gates.states = .empty := congrArg Ledger.states ht
    have change : t.gates.change = none := congrArg Ledger.change ht
    refine ⟨.of_none change fun d hd => ?_, .of_none change, fun e he => ?_⟩
    · rw [Gates.state, states] at hd
      cases hd
    · rw [slots] at he
      cases he

/-! ### The changes (R103, R104) -/

/-- Nothing is in flight in a drained district (R100). -/
theorem State.InFlightSound.not_mem_drained (h : s.InFlightSound) {ds : List Nat}
    (hd : s.gates.drained ds = true) {e : Estimate} (he : e ∈ s.slots) : e.district ∉ ds := by
  intro hm
  have none : s.gates.count e.district = 0 := by
    simpa using List.all_eq_true.1 hd _ hm
  rw [h.counts, List.length_eq_zero_iff] at none
  exact List.filter_eq_nil_iff.1 none e he (by simp)

theorem assigned_of_deviceSet {x : Contents} {m : Option Mapping} (h : DeviceSet s t r x m)
    (b : Nat) : t.assigned b = s.assigned b := by
  obtain ⟨-, -, -, -, -, -, -, record⟩ := h
  rw [State.assigned, record, mappedTo_assigned, State.assigned]

theorem assigned_of_binLoaded {x : Contents} {b i : Nat} {f : Bool} {c : Option Int}
    (h : BinLoaded s t r x b f c) (hi : i ≠ b) : t.assigned i = s.assigned i := by
  obtain ⟨-, -, -, others, -⟩ := h
  exact congrArg BinRecord.assigned (others i hi).1

theorem assigned_of_binRetired {x : Contents} {b i : Nat} (h : BinRetired s t r x b)
    (hi : i ≠ b) : t.assigned i = s.assigned i := by
  obtain ⟨-, -, -, -, -, record, -⟩ := h
  exact congrArg BinRecord.assigned ((record i).trans (if_neg hi))

theorem assigned_of_districtCleared {x : Contents} {d i : Nat} {a : Assigned}
    (h : DistrictCleared s t r x d) (ha : s.assigned i = some a) (hd : a.district ≠ d) :
    t.assigned i = some a := by
  obtain ⟨-, -, -, -, -, record, -⟩ := h
  have stays : ¬ (s.assigned i).any (fun a => a.district == d) = true := by simpa [ha] using hd
  exact (congrArg BinRecord.assigned ((record i).trans (if_neg stays))).trans ha

theorem applyLoadProfile_district (hr : s.bins.records.wf = true) {b : Nat} {a : Assigned}
    (ha : s.assigned b = some a) :
    ∃ a', (applyLoadProfile r s).1.assigned b = some a' ∧ a'.district = a.district := by
  unfold applyLoadProfile
  cases r.profile with
  | none => exact ⟨a, ha, rfl⟩
  | some p =>
    have reset := State.KeepsAssignments.foldl (fun s b => .resetBin (s := s) b)
      (if geometryChanges (s.profiles.get (r.arg8 0)) p then s.binsNaming (r.arg8 0) else [])
      (s.setProfile (r.arg8 0) (some p.held))
    exact reset.district hr ha

/-- A change moves no bin of a district outside its gate set (R103). -/
theorem applyChange_district (hcan : s.Canonical) {b : Nat} {a : Assigned}
    (ha : s.assigned b = some a) (hn : a.district ∉ s.gateSet r) :
    ∃ a', (applyChange r s).1.assigned b = some a' ∧ a'.district = a.district := by
  have hr := Table.wf_of_canonical hcan.records
  have other : ∀ i, a.district ∉ s.districtsOfBin i → b ≠ i := by
    rintro i hi rfl
    rw [State.districtsOfBin, ha] at hi
    exact hi (List.mem_singleton_self _)
  cases ho : r.operation with
  | none =>
    rw [applyChange, ho]
    exact ⟨a, ha, rfl⟩
  | some op =>
    rw [State.gateSet, ho] at hn
    rw [applyChange, ho]
    cases op with
    | loadDevice =>
      exact ⟨a, (assigned_of_deviceSet (applyLoadDevice_deviceSet hcan.devices hr) b).trans ha,
        rfl⟩
    | clearDevice =>
      exact ⟨a, (assigned_of_deviceSet (applyClearDevice_deviceSet hcan.devices hr) b).trans ha,
        rfl⟩
    | loadBin =>
      have hb := other _ fun hm => hn (List.mem_append_left _ hm)
      exact ⟨a, (assigned_of_binLoaded (applyLoadBin_binLoaded hr hcan.calibration) hb).trans ha,
        rfl⟩
    | retireBin =>
      exact ⟨a, (assigned_of_binRetired (applyRetireBin_binRetired hcan.devices hr
        hcan.calibration) (other _ hn)).trans ha, rfl⟩
    | clearDistrict =>
      exact ⟨a, assigned_of_districtCleared (applyClearDistrict_districtCleared hcan.devices hr
        hcan.calibration) ha (mt List.mem_singleton.2 hn), rfl⟩
    | loadProfile => exact applyLoadProfile_district hr ha
    | _ => exact ⟨a, ha, rfl⟩

/-- A change that has been made and answered, with nothing in flight in its districts. -/
theorem State.FlightsGuarded.settled (h : s.FlightsGuarded) (hcan : s.Canonical)
    (hin : s.InFlightSound) {x : Result} {k : Contents} (hd : s.gates.drained (s.gateSet r) = true)
    (hc : ∀ c, s.gates.change = some c → c.districts = s.gateSet r)
    (hs : Settled s t r x k (s.gateSet r)) (ht : (applyChange r s).1.SameTables t) :
    t.FlightsGuarded := by
  obtain ⟨frame, change, -, states, -, -⟩ := hs
  have slots : t.slots = s.slots := by rw [frame]; rfl
  refine ⟨.of_none change fun d => ?_, .of_none change, fun e he => ?_⟩
  · rw [states]
    split
    · exact fun h => by cases h
    · next hn => exact h.gates.not_changing hc hn
  · rw [slots] at he
    obtain ⟨a, ha, had⟩ := h.flights e he
    obtain ⟨a', ha', hd'⟩ := applyChange_district hcan ha (had ▸ hin.not_mem_drained hd he)
    refine ⟨a', ?_, hd'.trans had⟩
    rw [State.assigned, State.record, ht.bins]
    exact ha'

/-- A change whose districts have estimates in flight sets its gates (R103). -/
theorem State.FlightsGuarded.setGates (h : s.FlightsGuarded) (hcan : s.Canonical)
    (hr : s.head = some r) (hf : s.changeFits r = true) :
    (s.setGates (s.gateSet r)).FlightsGuarded := by
  obtain ⟨-, hc, -, hq⟩ := State.head_eq_some.1 hr
  obtain ⟨rest, hq⟩ : ∃ rest, s.management.queue = r :: rest := by
    cases hl : s.management.queue with
    | nil => rw [hl] at hq; cases hq
    | cons x rest => rw [hl] at hq; cases hq; exact ⟨rest, rfl⟩
  have k : s.KeepsAssignments (s.setGates (s.gateSet r)) := .of_tables rfl
  refine ⟨fun d => ?_, ?_, h.flights⟩
  · have states : (s.setGates (s.gateSet r)).gates.state d =
        if d ∈ s.gateSet r then .changing else s.gates.state d :=
      Gates.state_setStates (Table.wf_of_canonical hcan.gates) ..
    rw [states]
    constructor
    · intro hg
      refine ⟨_, rfl, ?_⟩
      by_contra hn
      rw [if_neg hn] at hg
      exact h.gates.not_changing (ds := []) (fun c hcc => by cases hc.symm.trans hcc) (by simp) hg
    · rintro ⟨c, hcc, hm⟩
      cases hcc
      exact if_pos hm
  · intro c hcc
    cases hcc
    exact ⟨r, rest, hq, (k.changeFits r).trans hf,
      (k.gateSet (Table.wf_of_canonical hcan.records) r).symm⟩

/-- The command of a change: what passes its checks is made at once where its districts are drained,
and sets its gates where they are not. -/
theorem State.FlightsGuarded.carryChange (h : s.FlightsGuarded) (hcan : s.Canonical)
    (hin : s.InFlightSound) (hr : s.head = some r) (hf : s.changeFits r = true) :
    (s.carryChange applyChange (s.gateSet r) r).FlightsGuarded := by
  obtain ⟨-, hc, -, -⟩ := State.head_eq_some.1 hr
  cases hd : s.gates.drained (s.gateSet r) with
  | true =>
    obtain ⟨hs, ht⟩ := carryChange_settled (Table.wf_of_canonical hcan.gates) hc hd
    exact h.settled hcan hin hd (fun c hcc => by cases hc.symm.trans hcc) hs ht
  | false =>
    have he : s.gateSet r ≠ [] := by
      intro he
      rw [he] at hd
      cases hd
    rw [State.carryChange_waits he hd]
    exact h.setGates hcan hr hf

theorem State.FlightsGuarded.serve_change (h : s.FlightsGuarded) (hcan : s.Canonical)
    (hin : s.InFlightSound) {op : Operation} {check : State → Request → Option Result}
    {apply : Request → State → Applied} {ds : Request → State → List Nat}
    (hmem : op ∈ tableChanges)
    (ha : ∀ r u, r.operation = some op → apply r u = applyChange r u)
    (hh : ∀ r, r.operation = some op → headCheck s r = check s r)
    (hg : ∀ r, r.operation = some op → s.gateSet r = ds r s) :
    (s.serve (isOp op) check fun r s => s.carryChange apply (ds r s) r).FlightsGuarded := by
  rcases State.serve_cases (isOp op) check (fun r s => s.carryChange apply (ds r s) r) s with
    hs | ⟨r, hr, hop, ⟨x, -, hs⟩ | ⟨hc, hs⟩⟩ <;> rw [hs]
  · exact h
  · exact h.ledgerStep hcan (.answered (State.head_eq_some.1 hr).2.1 rfl)
  · rw [isOp_iff] at hop
    rw [State.carryChange_congr (ha r · hop), ← hg r hop]
    exact h.carryChange hcan hin hr (changeFits_of_headCheck hmem hop ((hh r hop).trans hc))

/-- CHANGE_APPLICATION applies the pending change as it was checked, once its districts are drained
(R104). -/
theorem execChangeApplication_keeps_flightsGuarded (h : s.FlightsGuarded) (hcan : s.Canonical)
    (hin : s.InFlightSound) : Keeps State.FlightsGuarded (execChangeApplication s) := by
  refine keeps_next ?_
  unfold State.whenRunning
  split
  · dsimp only
    split
    · next c r rest hc hq =>
      split
      · next hd =>
        obtain ⟨r', rest', hq', -, hds⟩ := h.pending c hc
        rw [hq] at hq'
        cases hq'
        refine h.settled hcan hin (hds ▸ hd) (fun c' hc' => ?_) (hds ▸ settled_reopen
          (Table.wf_of_canonical hcan.gates) (applyChange_tablesStep r s) c .ok _)
          (State.sameTables_reopen _ _ _ _)
        cases hc.symm.trans hc'
        exact hds
      · exact h
    · exact h
  · exact h

theorem State.FlightsGuarded.reset : State.reset.FlightsGuarded :=
  ⟨reset_gatesSound, fun _ h => (by cases h), List.forall_mem_nil _⟩

theorem State.FlightsGuarded.of_ledger (h : s.FlightsGuarded) (hw : s.bins.records.wf = true)
    (ht : t.ledger = s.ledger) : t.FlightsGuarded :=
  h.keeps hw (.of_tables (State.LedgerStep.same ht).tables) (.of_ledger ht)

theorem execPowerOn_keeps_flightsGuarded (h : s.FlightsGuarded) :
    Keeps State.FlightsGuarded (execPowerOn s) := by
  refine keeps_next ?_
  split
  · exact h
  · exact State.FlightsGuarded.reset.of_ledger rfl rfl

/-! ### Every command and every step -/

theorem exec_keeps_flightsGuarded (c : Instr) (h : s.FlightsGuarded) (hcan : s.Canonical)
    (hin : s.InFlightSound) : Keeps State.FlightsGuarded (exec c s) := by
  have hw := Table.wf_of_canonical hcan.records
  by_cases hs : c = .silenceSweep
  · subst hs
    exact fun t ht => h.keeps hw (execSilenceSweep_keepsAssignments t ht)
      (execSilenceSweep_keepsControl t ht)
  by_cases he : ∃ b, c = .estimateCompletion b
  · obtain ⟨b, rfl⟩ := he
    exact fun t ht => h.keeps hw (execEstimateCompletion_keepsAssignments b t ht)
      (execEstimateCompletion_keepsControl b t ht)
  by_cases hc : altersTables c = false
  · exact (exec_ledgerStep c hc hs fun b hb => he ⟨b, hb⟩).mono fun _ => h.ledgerStep hcan
  cases c with
  | loadPrefix | clearPrefix | loadDevice | clearDevice | loadBin | retireBin | clearDistrict
  | loadProfile =>
    exact keeps_next (h.serve_change hcan hin (by decide) (fun _ _ ho => by rw [applyChange, ho])
      (fun _ ho => by rw [headCheck, ho]) fun _ ho => by rw [State.gateSet, ho])
  | changeApplication => exact execChangeApplication_keeps_flightsGuarded h hcan hin
  | powerOn => exact execPowerOn_keeps_flightsGuarded h
  | _ => exact absurd rfl hc

/-- Taking the front command out of the queue of commands changes no table. -/
theorem State.Canonical.setPending (h : s.Canonical) (l : List Instr) :
    State.Canonical { s with pending := l } := { h with }

theorem step_keeps_flightsGuarded (h : s.FlightsGuarded) (hcan : s.Canonical)
    (hin : s.InFlightSound) : Keeps State.FlightsGuarded (step s) := by
  have hw := Table.wf_of_canonical hcan.records
  unfold step
  split
  · unfold idle
    split
    · exact exec_keeps_flightsGuarded _ h hcan hin
    · exact keeps_next (h.of_ledger hw State.ledger_tick)
  · exact exec_keeps_flightsGuarded _ (h.of_ledger hw rfl) (hcan.setPending _)
      ⟨hin.bins, hin.counts⟩

/-- Settles O55: each command keeps `State.FlightsGuarded`. A change is made only where its districts
have nothing in flight, and it moves no bin of another district. -/
theorem everyStepKeepsFlightsInTheirDistricts :
    Obligations.EveryStepKeepsFlightsInTheirDistricts := by
  intro s t hcan hin hg hp hf hs
  have kept := step_keeps_flightsGuarded ⟨hg, hp, hf⟩ hcan hin t hs
  exact ⟨kept.gates, kept.pending, kept.flights⟩

end Sys2Proof.Machine
end

section
/-! PROOFS. The collection-due queue (R113 to R119): every hand-over keeps its keys ascending with one
entry a bin, and reaches no bin's assignment and no calibration entry. -/

namespace Sys2Proof.Machine

variable {s t u : State} {q : List DueEntry} {e : DueEntry}

/-! ### The order of the queue (R113) -/

/-- A collection-due queue holds one entry a bin, by ascending key. -/
structure DueOrdered (q : List DueEntry) : Prop where
  bins : (q.map fun e => e.bin).Nodup
  ordered : q.Pairwise fun x y => x.before y = true

theorem DueOrdered.sublist {l : List DueEntry} (h : DueOrdered q) (hl : l.Sublist q) :
    DueOrdered l :=
  ⟨h.bins.sublist (hl.map _), h.ordered.sublist hl⟩

theorem DueOrdered.dropDue (h : DueOrdered q) (b : Nat) : DueOrdered (dropDue b q) :=
  h.sublist List.filter_sublist

/-- A write in place that leaves bins and due times keeps the order (R118, R119). -/
theorem DueOrdered.map (h : DueOrdered q) {f : DueEntry → DueEntry}
    (hb : ∀ x, (f x).bin = x.bin) (hd : ∀ x, (f x).due = x.due) : DueOrdered (q.map f) where
  bins := by
    rw [List.map_map]
    exact (List.map_congr_left fun x _ => hb x) ▸ h.bins
  ordered := List.pairwise_map.2 <| h.ordered.imp fun {x y} hxy => by
    simpa only [DueEntry.before, hb, hd] using hxy

/-- An entry placed at its key's position in a queue without its bin (R113, R115). -/
theorem DueOrdered.insertDue (h : DueOrdered q) (hb : ∀ x ∈ q, x.bin ≠ e.bin) :
    DueOrdered (insertDue e q) := by
  induction q with
  | nil => exact ⟨List.nodup_singleton _, List.pairwise_singleton ..⟩
  | cons y rest ih =>
    obtain ⟨hy, hrest⟩ := List.forall_mem_cons.1 hb
    obtain ⟨hyn, hnd⟩ := List.nodup_cons.1 h.bins
    obtain ⟨hyb, hpw⟩ := List.pairwise_cons.1 h.ordered
    have tail := ih ⟨hnd, hpw⟩ hrest
    unfold Machine.insertDue
    split
    · next hlt =>
      refine ⟨List.nodup_cons.2 ⟨fun hm => ?_, h.bins⟩,
        List.pairwise_cons.2 ⟨fun x hx => ?_, h.ordered⟩⟩
      · obtain ⟨x, hx, hxe⟩ := List.mem_map.1 hm
        exact hb x hx hxe
      · rcases List.mem_cons.1 hx with rfl | hx
        · exact hlt
        · exact DueEntry.before_trans hlt (hyb x hx)
    · next hle =>
      have after : y.before e = true :=
        DueEntry.before_total (Ne.symm hy) (Bool.eq_false_iff.2 hle)
      refine ⟨List.nodup_cons.2 ⟨fun hm => ?_, tail.bins⟩,
        List.pairwise_cons.2 ⟨fun x hx => ?_, tail.ordered⟩⟩
      · obtain ⟨x, hx, hxy⟩ := List.mem_map.1 hm
        rcases mem_insertDue.1 hx with rfl | hx
        · exact hy hxy.symm
        · exact hyn (List.mem_map.2 ⟨x, hx, hxy⟩)
      · rcases mem_insertDue.1 hx with rfl | hx
        · exact after
        · exact hyb x hx

theorem mem_dropDue {x : DueEntry} {b : Nat} : x ∈ dropDue b q ↔ x ∈ q ∧ x.bin ≠ b := by
  simp [dropDue]

/-! ### Hand-overs (R115 to R119) -/

/-- The silent flag is written in place (R118). -/
theorem DueOrdered.handSilent (h : DueOrdered s.due) {b : Nat} {f : Bool} :
    DueOrdered (s.handSilent b f).due :=
  h.map (fun x => by split <;> rfl) fun x => by split <;> rfl

theorem mem_handSilent {x : DueEntry} {b : Nat} {f : Bool} (hx : x ∈ (s.handSilent b f).due) :
    ∃ y ∈ s.due, y.bin = x.bin := by
  obtain ⟨y, hy, rfl⟩ := List.mem_map.1 hx
  exact ⟨y, hy, by split <;> rfl⟩

/-- A prediction keeps the order, whether it is placed, evicts, or is refused (R115, R116). -/
theorem DueOrdered.handPrediction (h : DueOrdered s.due) (e : DueEntry) :
    DueOrdered (s.handPrediction e).due := by
  have left := h.dropDue e.bin
  have others : ∀ x ∈ Machine.dropDue e.bin s.due, x.bin ≠ e.bin := fun x hx => (mem_dropDue.1 hx).2
  rcases State.handPrediction_cases e s with ⟨-, hp⟩ | ⟨_, -, -, -, hp⟩ | ⟨_, -, -, -, hp⟩ <;> rw [hp]
  · exact left.insertDue others
  · exact (left.sublist (List.dropLast_sublist _)).insertDue
      fun x hx => others x (List.mem_of_mem_dropLast hx)
  · exact left

/-- After a prediction the queue holds at most its entry and entries of other bins as they were. -/
theorem mem_handPrediction {x : DueEntry} (hx : x ∈ (s.handPrediction e).due) :
    x = e ∨ (x ∈ s.due ∧ x.bin ≠ e.bin) := by
  rcases State.handPrediction_cases e s with ⟨-, hp⟩ | ⟨_, -, -, -, hp⟩ | ⟨_, -, -, -, hp⟩ <;>
    rw [hp] at hx
  · exact (mem_insertDue.1 hx).imp_right mem_dropDue.1
  · exact (mem_insertDue.1 hx).imp_right fun h => mem_dropDue.1 (List.mem_of_mem_dropLast h)
  · exact .inr (mem_dropDue.1 hx)

theorem State.assigned_handPrediction (h : s.bins.records.wf = true) (e : DueEntry) (i : Nat) :
    (s.handPrediction e).assigned i = s.assigned i := by
  rcases State.handPrediction_cases e s with ⟨-, hp⟩ | ⟨_, -, -, -, hp⟩ | ⟨_, -, -, -, hp⟩ <;> rw [hp]
  · exact State.assigned_setUnqueued h ..
  · exact (State.assigned_setUnqueued (Table.wf_set h ..) ..).trans
      (State.assigned_setUnqueued h ..)
  · exact State.assigned_setUnqueued h ..

theorem State.learned_handPrediction (e : DueEntry) (i : Nat) :
    (s.handPrediction e).learned i = s.learned i := by
  rcases State.handPrediction_cases e s with ⟨-, hp⟩ | ⟨_, -, -, -, hp⟩ | ⟨_, -, -, -, hp⟩ <;>
    rw [hp] <;> rfl

/-- A due update reaches no bin's assignment. -/
theorem State.assigned_handDue (h : s.bins.records.wf = true) (b d i : Nat) (x : DueUpdate) :
    (s.handDue b d x).assigned i = s.assigned i := by
  cases x with
  | nothing => rfl
  | removal => exact State.assigned_setUnqueued h ..
  | prediction due isOver coarse => exact State.assigned_handPrediction h ..

/-- A due update reaches no calibration entry. -/
theorem State.learned_handDue (b d i : Nat) (x : DueUpdate) :
    (s.handDue b d x).learned i = s.learned i := by
  cases x with
  | nothing => rfl
  | removal => rfl
  | prediction due isOver coarse => exact State.learned_handPrediction ..

theorem DueOrdered.handDue (h : DueOrdered s.due) (b d : Nat) (x : DueUpdate) :
    DueOrdered (s.handDue b d x).due := by
  cases x with
  | nothing => exact h
  | removal => exact h.dropDue b
  | prediction due isOver coarse => exact h.handPrediction _

/-- After a due update the queue holds entries as they were, of the bin itself only where nothing was
handed over, and at most the entry of a prediction besides (R91). -/
theorem mem_handDue {x : DueEntry} {b d : Nat} {c : DueUpdate} (hx : x ∈ (s.handDue b d c).due) :
    (x ∈ s.due ∧ (x.bin = b → c = .nothing)) ∨
      (x.bin = b ∧ ∃ due isOver coarse, c = .prediction due isOver coarse) := by
  cases c with
  | nothing => exact .inl ⟨hx, fun _ => rfl⟩
  | removal => exact .inl ((mem_dropDue.1 hx).imp_right fun hne hb => absurd hb hne)
  | prediction due isOver coarse =>
    rcases mem_handPrediction hx with rfl | ⟨hm, hne⟩
    · exact .inr ⟨rfl, due, isOver, coarse, rfl⟩
    · exact .inl ⟨hm, fun hb => absurd hb hne⟩

end Sys2Proof.Machine
end

section
/-! PROOFS. What every applied frame writes, the departure from SILENT, and the frames that add no
fill (R38 to R42, R72, R83, R94). -/

namespace Sys2Proof.Machine

open Sys2Proof.Statements

variable {p : Profile} {env : Surroundings} {payload : List Byte} {arrival : Nat} {gap : Option Nat}
  {a : Assigned} {learned : Option Int} {e : Echo} {clamped : Bool}

/-! ### The frame kinds (R72) -/

theorem applyKind_of_reading (h : kindOf payload = some .reading) :
    applyKind p env payload arrival a learned = applyReading p env payload arrival a learned := by
  rw [applyKind, h]

theorem applyKind_of_install (h : kindOf payload = some .install) :
    applyKind p env payload arrival a learned = applyInstall a := by
  rw [applyKind, h]

theorem applyKind_of_status (h : kindOf payload = some .status) :
    applyKind p env payload arrival a learned = applyStatus a learned := by
  rw [applyKind, h]

/-- A frame that is no READING raises no event of its own. -/
theorem applyKind_events (h : kindOf payload ≠ some .reading) :
    (applyKind p env payload arrival a learned).events = [] := by
  unfold applyKind
  split
  · next hk => exact absurd hk h
  · rfl
  · rfl

/-- The echoes a READING uses in LEARNING, over the offset 0 (R79, R82). -/
theorem applyReading_of_learning (h : a.state = .learning) :
    applyReading p env payload arrival a learned =
      match selectLearning p (echoesUsed p 0 payload) with
      | none => blindReading (chosenTemp p (tempOf payload)).2 a learned
      | some e => learningReading p env e (chosenTemp p (tempOf payload)).2 arrival a learned := by
  unfold applyReading
  dsimp only
  rw [h]
  rfl

/-- The echoes a READING uses in ACTIVE, over the bin's offset (R79, R80). -/
theorem applyReading_of_not_learning (h : a.state ≠ .learning) :
    applyReading p env payload arrival a learned =
      match selectActive p a.surface (echoesUsed p a.offset payload) with
      | none => blindReading (chosenTemp p (tempOf payload)).2 a learned
      | some e => activeReading p env e (chosenTemp p (tempOf payload)).2 arrival a learned := by
  unfold applyReading
  dsimp only
  split
  · next hl => exact absurd hl h
  · rfl

theorem selectActive_nil (p : Profile) (held : Option Int) : selectActive p held [] = none := by
  unfold selectActive selectGlass
  cases p.kind
  · rfl
  · cases held <;> rfl

/-- A READING with no valid echo is BLIND (R83). -/
theorem applyReading_of_no_echo
    (h : echoesUsed p (if a.state = .learning then 0 else a.offset) payload = []) :
    applyReading p env payload arrival a learned =
      blindReading (chosenTemp p (tempOf payload)).2 a learned := by
  by_cases hs : a.state = .learning
  · rw [if_pos hs] at h
    rw [applyReading_of_learning hs, h]
    rfl
  · rw [if_neg hs] at h
    rw [applyReading_of_not_learning hs, h, selectActive_nil]

/-! ### The fields of R38 stay as they were written -/

theorem writtenAs_stage5 (fill : Nat) :
    writtenAs (stage5 p e fill arrival a) a = stage5 p e fill arrival a := by
  unfold stage5
  split <;> rfl

theorem writtenAs_activeReading :
    writtenAs (activeReading p env e clamped arrival a learned).record a =
      (activeReading p env e clamped arrival a learned).record := by
  have mid := writtenAs_stage5 (p := p) (e := e) (arrival := arrival) (a := stage4 p e.surf a)
    (mapFill p e.surf)
  exact congrArg (stage6 p arrival) mid

theorem writtenAs_learningReading :
    writtenAs (learningReading p env e clamped arrival a learned).record a =
      (learningReading p env e clamped arrival a learned).record := by
  unfold learningReading
  split <;> rfl

theorem writtenAs_applyReading :
    writtenAs (applyReading p env payload arrival a learned).record a =
      (applyReading p env payload arrival a learned).record := by
  by_cases hs : a.state = .learning
  · rw [applyReading_of_learning hs]
    split
    · rfl
    · exact writtenAs_learningReading
  · rw [applyReading_of_not_learning hs]
    split
    · rfl
    · exact writtenAs_activeReading

/-- The effect of a frame's kind leaves what R38 wrote. -/
theorem writtenAs_applyKind :
    writtenAs (applyKind p env payload arrival a learned).record a =
      (applyKind p env payload arrival a learned).record := by
  unfold applyKind
  split
  · exact writtenAs_applyReading
  · rfl
  · rfl

/-! ### The departure from SILENT (R39) -/

/-- A record in the state, with the offset and the samples that R39 gives. -/
def Assigned.inState (a : Assigned) (st : LiveState) (off : Int) (smp : List Nat) : Assigned :=
  { a with state := st, offset := off, samples := smp }

theorem leaveSilent_of_not_silent (h : a.state ≠ .silent) : leaveSilent learned a = a :=
  if_neg h

/-- What R39 makes of a record: an ACTIVE or a LEARNING bin stays, a SILENT one takes its state by the
calibration entry. -/
theorem leaveSilent_eq_inState {st : LiveState} {off : Int} {smp : List Nat}
    (hn : a.state ≠ .silent → st = a.state ∧ off = a.offset ∧ smp = a.samples)
    (hs : a.state = .silent → smp = [] ∧ (∀ v, learned = some v → st = .active ∧ off = v) ∧
      (learned = none → st = .learning ∧ off = 0)) :
    leaveSilent learned a = a.inState st off smp ∧ st ≠ .silent := by
  by_cases h : a.state = .silent
  · obtain ⟨rfl, hsome, hnone⟩ := hs h
    rw [leaveSilent, if_pos h]
    cases learned with
    | none =>
      obtain ⟨rfl, rfl⟩ := hnone rfl
      exact ⟨rfl, by decide⟩
    | some v =>
      obtain ⟨rfl, rfl⟩ := hsome v rfl
      exact ⟨rfl, by decide⟩
  · obtain ⟨rfl, rfl, rfl⟩ := hn h
    exact ⟨leaveSilent_of_not_silent h, h⟩

theorem completion_eq : completion p env payload arrival gap a learned =
    { applyKind p env payload arrival (leaveSilent learned (applyCommon p payload arrival a))
        learned with
      clearSilent := decide (a.state = .silent)
      events := commonEvents payload gap a (applyCommon p payload arrival a) ++
        (applyKind p env payload arrival (leaveSilent learned (applyCommon p payload arrival a))
          learned).events } := rfl

/-- Every event of R38 is of its three classes. -/
theorem commonEvents_classes {after : Assigned} {x : WatchClass × Int}
    (h : x ∈ commonEvents payload gap a after) :
    x.1 = .gap ∨ x.1 = .lid ∨ x.1 = .lowBattery := by
  simp only [commonEvents, List.flatten_cons, List.flatten_nil, List.append_nil,
    List.mem_append] at h
  rcases h with h | h | h
  · cases gap with
    | none => cases h
    | some g => exact .inl (List.mem_singleton.1 h ▸ rfl)
  · unfold eventIf at h
    split at h
    · exact .inr (.inl (List.mem_singleton.1 h ▸ rfl))
    · cases h
  · unfold eventIf at h
    split at h
    · exact .inr (.inr (List.mem_singleton.1 h ▸ rfl))
    · cases h

/-- The events of R38 in the words of R94. -/
theorem commonEvents_eq (after : Assigned) (rest : List (WatchClass × Int)) :
    commonEvents payload gap a after ++ rest = List.flatten
      [ gap.toList.map fun g => (WatchClass.gap, (g : Int)),
        if a.lid = false ∧ after.lid = true then [(.lid, (lidOf payload : Int))] else [],
        if a.batteryLow = false ∧ after.batteryLow = true then
          [(.lowBattery, (((batteryOf payload).getD 0 : Nat) : Int))] else [],
        rest ] := by
  have shape : ∀ g : List (WatchClass × Int), List.flatten [g, eventIf (rose a.lid after.lid) .lid
        (lidOf payload : Int), eventIf (rose a.batteryLow after.batteryLow) .lowBattery
        (((batteryOf payload).getD 0 : Nat) : Int)] ++ rest = List.flatten [g,
      if a.lid = false ∧ after.lid = true then [(.lid, (lidOf payload : Int))] else [],
      if a.batteryLow = false ∧ after.batteryLow = true then
        [(.lowBattery, (((batteryOf payload).getD 0 : Nat) : Int))] else [], rest] := by
    intro g
    simp only [eventIf, rose, Bool.and_eq_true, Bool.not_eq_true', List.flatten_cons,
      List.flatten_nil, List.append_nil, List.append_assoc]
  cases gap <;> exact shape _

theorem writtenAs_leaveSilent : writtenAs (leaveSilent learned a) a = leaveSilent learned a := by
  unfold leaveSilent
  split
  · cases learned <;> rfl
  · rfl

/-- A completed record holds the fields of R38 as they were written. -/
theorem writtenAs_completion :
    writtenAs (completion p env payload arrival gap a learned).record
      (applyCommon p payload arrival a) =
        (completion p env payload arrival gap a learned).record := by
  have own := writtenAs_applyKind (p := p) (env := env) (payload := payload) (arrival := arrival)
    (a := leaveSilent learned (applyCommon p payload arrival a)) (learned := learned)
  have left := writtenAs_leaveSilent (a := applyCommon p payload arrival a) (learned := learned)
  generalize hw : leaveSilent learned (applyCommon p payload arrival a) = w at own left
  have record : (completion p env payload arrival gap a learned).record =
      (applyKind p env payload arrival w learned).record := hw ▸ rfl
  rw [record]
  generalize (applyKind p env payload arrival w learned).record = r at own
  calc writtenAs r (applyCommon p payload arrival a)
      = writtenAs r (writtenAs w (applyCommon p payload arrival a)) := rfl
    _ = writtenAs r w := by rw [left]
    _ = r := own

theorem applyCommon_battery :
    (applyCommon p payload arrival a).battery = (batteryOf payload).or a.battery := by
  unfold applyCommon
  cases batteryOf payload <;> rfl

theorem applyCommon_batteryLow (p : Profile) (payload : List Byte) (arrival : Nat)
    (a : Assigned) : (applyCommon p payload arrival a).batteryLow =
      (batteryOf payload).elim a.batteryLow (batteryLowNext a.batteryLow p.batteryLimit) := by
  unfold applyCommon
  cases batteryOf payload <;> rfl

/-- A completion writes the fields of R38 and keeps the assignment, whatever the frame's kind. -/
theorem completion_written {c : Completion}
    (hc : c = completion p env payload arrival gap a learned) :
    c.record.lastCount = some (countOf payload) ∧ c.record.lastHeard = max a.lastHeard arrival ∧
      c.record.lid = decide (lidOf payload ≠ 0) ∧
      c.record.battery = (batteryOf payload).or a.battery ∧
      (batteryOf payload = none → c.record.batteryLow = a.batteryLow) ∧
      (∀ v, batteryOf payload = some v → c.record.batteryLow =
        if v < p.batteryLimit then true else if p.batteryLimit + 100 < v then false
        else a.batteryLow) ∧
      c.record.district = a.district ∧ c.record.profile = a.profile ∧
      c.record.generation = a.generation := by
  have placed := placing_completion p env payload arrival gap a learned
  have kept := writtenAs_completion (p := p) (env := env) (payload := payload)
    (arrival := arrival) (gap := gap) (a := a) (learned := learned)
  have low : c.record.batteryLow = (applyCommon p payload arrival a).batteryLow := by
    rw [hc, ← kept]
    rfl
  rw [applyCommon_batteryLow] at low
  rw [← hc] at placed kept
  simp only [Assigned.placing, Prod.mk.injEq] at placed
  refine ⟨?_, ?_, ?_, ?_, fun hb => ?_, fun v hb => ?_, placed⟩
  · rw [← kept]
    rfl
  · rw [← kept]
    rfl
  · rw [← kept]
    rfl
  · rw [← applyCommon_battery (p := p) (arrival := arrival), ← kept]
    rfl
  · rw [low, hb, Option.elim_none]
  · rw [low, hb, Option.elim_some]
    rfl

/-- Settles O16: after R38 and R39 the frame has its kind's own effect, which leaves what R38 wrote. -/
theorem statusInstallAndBlindFramesAddNoFill :
    Obligations.StatusInstallAndBlindFramesAddNoFill := by
  intro p env payload arrival gap a learned c st off smp hc hn hs
  obtain ⟨hleft, hst⟩ := leaveSilent_eq_inState (a := applyCommon p payload arrival a) hn hs
  have written := completion_written hc
  have whole := completion_eq (p := p) (env := env) (payload := payload) (arrival := arrival)
    (gap := gap) (a := a) (learned := learned)
  have other := completion_eq (p := p) (env := env) (payload := payload) (arrival := arrival)
    (gap := gap) (a := a.inState st off smp) (learned := learned)
  have noEcho := applyReading_of_no_echo (p := p) (env := env) (payload := payload)
    (arrival := arrival) (a := (applyCommon p payload arrival a).inState st off smp)
    (learned := learned)
  rw [hleft, ← hc] at whole
  rw [leaveSilent_of_not_silent (show (applyCommon p payload arrival
    (a.inState st off smp)).state ≠ .silent from hst)] at other
  have common := commonEvents_eq (payload := payload) (gap := gap) (a := a) c.record
  have kept := writtenAs_completion (p := p) (env := env) (payload := payload) (arrival := arrival)
    (gap := gap) (a := a) (learned := learned)
  rw [← hc] at kept
  have raised : commonEvents payload gap a (applyCommon p payload arrival a) =
      commonEvents payload gap a c.record := kept ▸ rfl
  refine ⟨written, by rw [whole], whole.trans ?_, ⟨_, ?_, applyKind_events (p := p) (env := env)
    (arrival := arrival) (a := (applyCommon p payload arrival a).inState st off smp)
    (learned := learned)⟩, fun hk => ?_, fun hk => ?_, fun hk he => ?_⟩
  · show _ = { completion p env payload arrival gap (a.inState st off smp) learned with
      clearSilent := decide (a.state = LiveState.silent) }
    rw [other]
    rfl
  · rw [← common, ← raised, whole]
  · rw [whole, applyKind_of_status hk]
    exact ⟨⟨rfl, rfl, rfl, rfl, rfl, rfl, rfl, rfl⟩, rfl, rfl, rfl, rfl, rfl, rfl⟩
  · rw [whole, applyKind_of_install hk]
    exact ⟨⟨rfl, rfl, rfl, rfl, rfl, rfl, rfl, rfl⟩, rfl, rfl, rfl, rfl, rfl, rfl⟩
  · rw [whole, applyKind_of_reading hk, noEcho he]
    refine ⟨⟨rfl, rfl, rfl, rfl, rfl, rfl, rfl, rfl⟩, rfl, rfl, rfl, rfl, rfl, rfl,
      List.mem_append_right _ (List.mem_singleton.2 ?_)⟩
    show (WatchClass.blind, (reportedFill a : Int)) = (.blind, (a.fillOrZero : Int))
    rw [Assigned.fillOrZero, reportedFill]
    cases a.f16 <;> rfl

end Sys2Proof.Machine
end

section
/-! PROOFS. A READING in LEARNING: the echo it selects, the learning samples and the long calibration
(R41, R82, R92). -/

namespace Sys2Proof.Machine

open Sys2Proof.Statements

variable {p : Profile} {env : Surroundings} {payload : List Byte} {arrival : Nat} {gap : Option Nat}
  {a : Assigned} {learned : Option Int} {e : Echo} {clamped : Bool}

/-! ### The best echo of a list -/

/-- The echo kept while a list is gone through is no worse than any of it. -/
theorem bestEcho_spec {before : Echo → Echo → Bool} {le : Echo → Echo → Prop}
    (refl : ∀ x, le x x) (trans : ∀ x y z, le x y → le y z → le x z)
    (better : ∀ x y, before x y = true → le x y) (worse : ∀ x y, before x y = false → le y x)
    {es : List Echo} {e : Echo} (h : bestEcho before es = some e) :
    e ∈ es ∧ ∀ x ∈ es, le e x := by
  cases es with
  | nil => cases h
  | cons y rest =>
    simp only [bestEcho, Option.some.injEq] at h
    subst h
    induction rest generalizing y with
    | nil => exact ⟨List.mem_cons_self .., List.forall_mem_singleton.2 (refl y)⟩
    | cons z rest ih =>
      rw [List.foldl_cons]
      cases hb : before z y with
      | true =>
        rw [if_pos rfl]
        obtain ⟨hm, hle⟩ := ih z
        obtain ⟨hz, hrest⟩ := List.forall_mem_cons.1 hle
        exact ⟨List.mem_cons_of_mem _ hm, List.forall_mem_cons.2
          ⟨trans _ _ _ hz (better z y hb), List.forall_mem_cons.2 ⟨hz, hrest⟩⟩⟩
      | false =>
        rw [if_neg Bool.false_ne_true]
        obtain ⟨hm, hle⟩ := ih y
        obtain ⟨hy, hrest⟩ := List.forall_mem_cons.1 hle
        refine ⟨?_, List.forall_mem_cons.2
          ⟨hy, List.forall_mem_cons.2 ⟨trans _ _ _ hy (worse z y hb), hrest⟩⟩⟩
        rcases List.mem_cons.1 hm with hm | hm
        · rw [hm]
          exact List.mem_cons_self ..
        · exact List.mem_cons_of_mem _ (List.mem_cons_of_mem _ hm)

theorem bestEcho_eq_none {before : Echo → Echo → Bool} {es : List Echo} :
    es = [] ↔ bestEcho before es = none := by
  cases es <;> simp [bestEcho]

/-- The nearest of some echoes to a distance, of two equally near the smaller (R81, R82). -/
theorem bestEcho_nearer {target : Int} {es : List Echo}
    (h : bestEcho (nearer target) es = some e) : e ∈ es ∧ ∀ x ∈ es,
      (e.surf - target).natAbs < (x.surf - target).natAbs ∨
        ((e.surf - target).natAbs = (x.surf - target).natAbs ∧ e.surf ≤ x.surf) := by
  refine bestEcho_spec (le := fun x y => (x.surf - target).natAbs < (y.surf - target).natAbs ∨
    ((x.surf - target).natAbs = (y.surf - target).natAbs ∧ x.surf ≤ y.surf)) ?_ ?_ ?_ ?_ h
  · exact fun x => .inr ⟨rfl, le_rfl⟩
  · intro x y z hxy hyz
    omega
  · intro x y hxy
    simp only [nearer, Bool.or_eq_true, Bool.and_eq_true, decide_eq_true_eq] at hxy
    omega
  · intro x y hxy
    simp only [nearer, Bool.or_eq_false_iff, Bool.and_eq_false_iff, decide_eq_false_iff_not] at hxy
    omega

/-! ### The second smallest sample (R92) -/

theorem insertNat_perm (x : Nat) (l : List Nat) : (insertNat x l).Perm (x :: l) := by
  induction l with
  | nil => exact .refl _
  | cons y rest ih =>
    unfold insertNat
    split
    · exact .refl _
    · exact (ih.cons y).trans (.swap ..)

theorem insertNat_sorted (x : Nat) {l : List Nat} (h : l.Pairwise (· ≤ ·)) :
    (insertNat x l).Pairwise (· ≤ ·) := by
  induction l with
  | nil => exact List.pairwise_singleton ..
  | cons y rest ih =>
    obtain ⟨hy, hrest⟩ := List.pairwise_cons.1 h
    unfold insertNat
    split
    · next hlt =>
      exact List.pairwise_cons.2 ⟨List.forall_mem_cons.2
        ⟨hlt.le, fun z hz => hlt.le.trans (hy z hz)⟩, h⟩
    · next hle =>
      refine List.pairwise_cons.2 ⟨fun z hz => ?_, ih hrest⟩
      rcases List.mem_cons.1 ((insertNat_perm x rest).mem_iff.1 hz) with rfl | hz
      · exact Nat.le_of_not_lt hle
      · exact hy z hz

/-- Sorting keeps the samples, each counted separately, and puts them in ascending order. -/
theorem sortNats_spec (l : List Nat) : (sortNats l).Perm l ∧ (sortNats l).Pairwise (· ≤ ·) := by
  have inserted : ∀ acc : List Nat, acc.Pairwise (· ≤ ·) →
      (l.foldl (fun acc x => insertNat x acc) acc).Perm (l ++ acc) ∧
        (l.foldl (fun acc x => insertNat x acc) acc).Pairwise (· ≤ ·) := by
    induction l with
    | nil => exact fun acc h => ⟨.refl _, h⟩
    | cons x rest ih =>
      intro acc h
      obtain ⟨hp, hs⟩ := ih (insertNat x acc) (insertNat_sorted x h)
      exact ⟨hp.trans (((insertNat_perm x acc).append_left rest).trans List.perm_middle), hs⟩
  have sorted := inserted [] List.Pairwise.nil
  rwa [List.append_nil] at sorted

/-- A sample that at most one other undercuts, and that at most all but two exceed, is the second
smallest. -/
theorem secondSmallest_eq {l : List Nat} {b : Nat}
    (hlt : (l.filter fun x => decide (x < b)).length ≤ 1)
    (hle : 2 ≤ (l.filter fun x => decide (x ≤ b)).length) : secondSmallest l = b := by
  obtain ⟨hp, hs⟩ := sortNats_spec l
  rw [← (hp.filter _).length_eq] at hlt hle
  unfold secondSmallest
  generalize sortNats l = m at hlt hle hs
  match m with
  | [] => exact absurd hle (by simp)
  | [y] => exact absurd (hle.trans (List.length_filter_le ..)) (by simp)
  | y :: z :: rest =>
    obtain ⟨hy, hz⟩ := List.pairwise_cons.1 hs
    obtain ⟨hz, -⟩ := List.pairwise_cons.1 hz
    have hyz := hy z (List.mem_cons_self ..)
    show z = b
    rcases Nat.lt_trichotomy z b with h | h | h
    · have : y < b := hyz.trans_lt h
      simp [h, this] at hlt
    · exact h
    · have none : rest.filter (fun x => decide (x ≤ b)) = [] :=
        List.filter_eq_nil_iff.2 fun x hx => by simpa using h.trans_le (hz x hx)
      have : ¬ z ≤ b := Nat.not_le.2 h
      by_cases hyb : y ≤ b <;> simp [this, hyb, none] at hle

/-! ### Stage 6 at the time of the anchor -/

theorem clampInt_eq {low high v : Int} (h : low ≤ high) :
    clampInt low high v = max low (min high v) := by
  unfold clampInt
  split
  · omega
  · split <;> omega

/-- No rate is computed at the moment the anchor is set (R89). -/
theorem newRate_at_anchor (hs : 0 < p.minSpan) {f k : Nat}
    (ha : a.anchor = some { time := arrival, f16 := k }) (hf : a.f16 = some f) :
    newRate p arrival a = none := by
  rw [newRate, ha, hf]
  exact if_neg (by simp only [Anchor.elapsed]; omega)

/-- The anchor does not move at the moment it is set (R89). -/
theorem movedAnchor_at_anchor {f k : Nat} (ha : a.anchor = some { time := arrival, f16 := k })
    (hf : a.f16 = some f) :
    movedAnchor arrival a = some { time := arrival, f16 := k } := by
  rw [movedAnchor, ha, hf]
  exact if_neg (by simp only [Anchor.elapsed]; omega)

/-- A profile in range: the limits of R56 that the arithmetic rests on. -/
theorem Profile.limits_of_inRange (h : p.inRange = true) :
    (∀ q ∈ p.points, q.2 ≤ 1000) ∧ p.weight ≤ 8 ∧ 600 ≤ p.minSpan := by
  simp only [Profile.inRange, List.all_cons, List.all_nil, id, Bool.and_true, Bool.and_eq_true,
    decide_eq_true_eq, pointsWellFormed, List.all_eq_true] at h
  obtain ⟨-, -, -, ⟨-, hp⟩, ⟨-, hw⟩, -, -, -, -, ⟨hs, -⟩, -⟩ := h
  exact ⟨hp, hw, hs⟩

/-! ### Details and events that arise -/

theorem mem_detailIf {b : Bool} {d x : FlagDetail} : x ∈ detailIf b d ↔ b = true ∧ x = d := by
  cases b <;> simp [detailIf]

theorem mem_eventIf {b : Bool} {c k : WatchClass} {v w : Int} :
    (k, w) ∈ eventIf b c v ↔ b = true ∧ k = c ∧ w = v := by
  cases b <;> simp [eventIf]

/-- The threshold tests raise DUE, FULL and FAST_FILL alone (R90). -/
theorem stage6Events_classes {k : WatchClass} {v : Int} (h : (k, v) ∈ stage6Events p arrival a) :
    k = .due ∨ k = .full ∨ k = .fastFill := by
  simp only [stage6Events, List.flatten_cons, List.flatten_nil, List.append_nil, List.mem_append,
    mem_eventIf] at h
  rcases h with ⟨-, h, -⟩ | ⟨-, h, -⟩ | ⟨-, h, -⟩
  · exact .inl h
  · exact .inr (.inl h)
  · exact .inr (.inr h)

/-! ### The fourth sample (R92) -/

/-- A READING in LEARNING has its own effect after the events of R38. -/
theorem completesAs_learningReading {c : Completion} (hs : a.state = .learning)
    (hk : kindOf payload = some .reading)
    (he : selectLearning p (echoesUsed p 0 payload) = some e)
    (hc : c = completion p env payload arrival gap a learned) :
    CompletesAs c (learningReading p env e (chosenTemp p (tempOf payload)).2 arrival
      (writtenAs a c.record) learned) := by
  have hs' : (applyCommon p payload arrival a).state = .learning := hs
  have left : leaveSilent learned (applyCommon p payload arrival a) =
      applyCommon p payload arrival a := leaveSilent_of_not_silent (by rw [hs']; decide)
  have written : writtenAs a c.record = applyCommon p payload arrival a := by
    rw [hc, ← writtenAs_completion]
    rfl
  have own : applyKind p env payload arrival (applyCommon p payload arrival a) learned =
      learningReading p env e (chosenTemp p (tempOf payload)).2 arrival
        (applyCommon p payload arrival a) learned := by
    rw [applyKind_of_reading hk, applyReading_of_learning hs', he]
  have silent : (learningReading p env e (chosenTemp p (tempOf payload)).2 arrival
      (applyCommon p payload arrival a) learned).clearSilent = false := by
    unfold learningReading
    split <;> rfl
  rw [written, hc, completion_eq, left, own]
  refine ⟨?_, _, rfl, fun x => commonEvents_classes⟩
  rw [show decide (a.state = .silent) = false by rw [hs]; rfl, ← silent]

/-- The offset of the long calibration (R92). -/
def longOffset (p : Profile) (e : Echo) (a : Assigned) : Int :=
  clampInt (-120) 120 ((secondSmallest (a.samples ++ [e.corr]) : Int) - (p.depth : Int))

/-- The surface distance of an echo over an offset, as the long calibration takes it (R92). -/
def surfaceOver (p : Profile) (e : Echo) (offset : Int) : Int :=
  if p.kind = .litter then max ((e.corr : Int) - offset) 0 else (e.corr : Int) - offset

/-- The record that the long calibration leaves for the threshold tests (R92). -/
def calibrated (p : Profile) (e : Echo) (arrival : Nat) (a : Assigned) : Assigned :=
  stage4 p (surfaceOver p e (longOffset p e a))
    { a with
      state := .active
      samples := []
      offset := longOffset p e a
      f16 := some (mapFill p (surfaceOver p e (longOffset p e a)) * 16)
      anchor := some { time := arrival
                       f16 := mapFill p (surfaceOver p e (longOffset p e a)) * 16 }
      rate := none }

theorem longCalibration_record : (longCalibration p env e clamped arrival a).record =
    stage6 p arrival (calibrated p e arrival a) := rfl

/-- A reading that sets the anchor computes no rate (R89, R92). -/
theorem calibrated_stage6 (hp : p.inRange = true) :
    (stage6 p arrival (calibrated p e arrival a)).rate = none ∧
      (stage6 p arrival (calibrated p e arrival a)).anchor =
        some { time := arrival
               f16 := mapFill p (surfaceOver p e (longOffset p e a)) * 16 } := by
  obtain ⟨-, -, hspan⟩ := Profile.limits_of_inRange hp
  refine ⟨?_, movedAnchor_at_anchor (a := calibrated p e arrival a) rfl rfl⟩
  simp only [stage6, newRate_at_anchor (a := calibrated p e arrival a)
    (Nat.lt_of_lt_of_le (by decide) hspan) rfl rfl]
  rfl

/-- CAL_LIMIT is a detail and an event of the long calibration exactly where the clamp acts (R92). -/
theorem longCalibration_calLimit {c : Completion} {k : Int}
    (hc : c = longCalibration p env e clamped arrival a)
    (hk : k = (secondSmallest (a.samples ++ [e.corr]) : Int) - (p.depth : Int)) :
    (.calLimit ∈ c.details ↔ longOffset p e a ≠ k) ∧
      ∀ v, (WatchClass.calLimit, v) ∈ c.events ↔ longOffset p e a ≠ k ∧ v = k := by
  subst hc hk
  have none : ∀ v x, (WatchClass.calLimit, v) ∉ stage6Events p arrival x := fun v x h => by
    rcases stage6Events_classes h with h | h | h <;> cases h
  refine ⟨?_, fun v => ?_⟩
  · simp only [longCalibration, List.flatten_cons, List.flatten_nil, List.append_nil,
      List.mem_append, mem_detailIf, reduceCtorEq, and_false, false_or, and_true,
      decide_eq_true_eq]
    rfl
  · simp only [longCalibration, List.flatten_cons, List.flatten_nil, List.append_nil,
      List.mem_append, mem_eventIf, none, reduceCtorEq, false_and, and_false, false_or, or_false,
      true_and, decide_eq_true_eq]
    rfl

/-- Settles O22: each part of the statement is one of the lemmas above, and the fourth sample makes
the long calibration. -/
theorem fourthSampleMakesTheBinActive : Obligations.FourthSampleMakesTheBinActive := by
  refine ⟨fun p es => ⟨bestEcho_eq_none, fun e he => bestEcho_nearer he⟩,
    fun p env payload arrival gap a learned e c => completesAs_learningReading,
    fun p env e clamped arrival a learned hl => ?_,
    fun p env e clamped arrival a learned c b hl hp hc _ hlt hle => ?_⟩
  · rw [learningReading, if_pos hl]
    rfl
  · rw [learningReading, if_neg (by omega)] at hc
    have second := secondSmallest_eq hlt hle
    have offset : longOffset p e a = max (-120) (min 120 ((b : Int) - p.depth)) := by
      rw [longOffset, second, clampInt_eq (by decide)]
    obtain ⟨detail, event⟩ := longCalibration_calLimit hc rfl
    obtain ⟨rate, anchor⟩ := calibrated_stage6 (e := e) (arrival := arrival) (a := a) hp
    have acts : longOffset p e a ≠ (b : Int) - p.depth ↔
        (b : Int) - p.depth < -120 ∨ 120 < (b : Int) - p.depth := by omega
    rw [second, acts] at detail
    simp only [second, acts] at event
    refine ⟨by rw [hc]; rfl, by rw [hc]; rfl, by rw [hc, ← offset]; rfl, by rw [hc]; rfl,
      by rw [hc, longCalibration_record, rate],
      ⟨surfaceOver p e (longOffset p e a), ?_, ?_, ?_, ?_, ?_⟩, by rw [hc]; rfl, detail, event⟩
    · rw [hc]
      rfl
    · rw [hc]
      rfl
    · rw [hc]
      rfl
    · rw [hc, longCalibration_record, anchor]
    · rw [hc, Bool.decide_and]
      rfl

end Sys2Proof.Machine
end

section
/-! PROOFS. A completion keeps the fields of its record in their ranges (R33, R34, R38, R88, R89). -/

namespace Sys2Proof.Machine

open Sys2Proof.Statements

variable {p : Profile} {env : Surroundings} {payload : List Byte} {arrival : Nat} {gap : Option Nat}
  {a : Assigned} {learned : Option Int} {e : Echo} {clamped : Bool}

/-! ### Offsets (R34, R87, R92) -/

/-- A calibration entry that is learned holds an offset in −120..+120 (R34). -/
def OffsetRange (c : Option Int) : Prop := ∀ v, c = some v → -120 ≤ v ∧ v ≤ 120

theorem clampInt_bounds {low high v : Int} (h : low ≤ high) :
    low ≤ clampInt low high v ∧ clampInt low high v ≤ high := by
  rw [clampInt_eq h]
  omega

theorem offset_zero : -120 ≤ (0 : Int) ∧ (0 : Int) ≤ 120 := by decide

theorem OffsetRange.clamp (v : Int) : OffsetRange (some (clampInt (-120) 120 v)) := by
  intro w hw
  cases hw
  exact clampInt_bounds (by decide)

/-! ### Fills (R84, R88) -/

theorem interpolate_le {pts : List (Nat × Nat)} (h : ∀ q ∈ pts, q.2 ≤ 1000) (s : Nat) :
    interpolate pts s ≤ 1000 := by
  induction pts with
  | nil => exact Nat.zero_le _
  | cons x rest ih =>
    obtain ⟨hx, hrest⟩ := List.forall_mem_cons.1 h
    cases rest with
    | nil => exact Nat.zero_le _
    | cons y rest =>
      rw [interpolate]
      split
      · exact (Nat.sub_le ..).trans hx
      · exact ih hrest

theorem mapFill_le (hp : p.inRange = true) (s : Int) : mapFill p s ≤ 1000 := by
  unfold mapFill
  split
  · exact le_rfl
  · split
    · exact Nat.zero_le _
    · exact interpolate_le (Profile.limits_of_inRange hp).1 _

/-- A smoothed F16 is no greater than the larger of the held one and the sample's (R88). -/
theorem smoothed_le {fill f bound : Nat} (hw : p.weight ≤ 8) (hfill : fill * 16 ≤ bound)
    (hf : f ≤ bound) : smoothed p fill (some f) ≤ bound := by
  have moved : Int.tdiv ((((fill * 16 : Nat) : Int) - f) * (p.weight : Int)) 8 ≤ (bound : Int) - f := by
    rcases Nat.le_total f (fill * 16) with h | h
    · obtain ⟨k, hk⟩ := Nat.exists_eq_add_of_le h
      have step : k * p.weight ≤ k * 8 := Nat.mul_le_mul_left k hw
      rw [Int.tdiv_eq_ediv_of_nonneg (by rw [hk]; push_cast; ring_nf; positivity)]
      rw [hk]
      push_cast
      have : ((f : Int) + k - f) * p.weight = ((k * p.weight : Nat) : Int) := by push_cast; ring
      omega
    · obtain ⟨k, hk⟩ := Nat.exists_eq_add_of_le h
      have : (((fill * 16 : Nat) : Int) - f) * p.weight = -((k * p.weight : Nat) : Int) := by
        rw [hk]
        push_cast
        ring
      rw [this, Int.neg_tdiv, Int.tdiv_eq_ediv_of_nonneg (by positivity)]
      omega
  simp only [smoothed]
  omega

/-! ### Stages (R84 to R91) -/

theorem Assigned.InRange.stage4 (h : a.InRange) (s : Int) : (stage4 p s a).InRange := { h with }

theorem Assigned.InRange.stage5 (h : a.InRange) {fill : Nat} (hw : p.weight ≤ 8)
    (hfill : fill ≤ 1000) : (stage5 p e fill arrival a).InRange := by
  have sample : fill * 16 ≤ 16000 := by omega
  unfold Machine.stage5
  split
  · refine { h with offset := ?_, f16 := ?_, anchor := ?_, rate := ?_ }
    · dsimp only
      split
      · exact clampInt_bounds (by decide)
      · exact h.offset
    · rintro v ⟨⟩
      exact sample
    · rintro k ⟨⟩
      exact sample
    · rintro v ⟨⟩
  · have moved : smoothed p fill a.f16 ≤ 16000 := by
      cases hf : a.f16 with
      | none => exact sample
      | some f => exact smoothed_le hw sample (h.f16 f hf)
    refine { h with f16 := ?_, anchor := ?_ }
    · rintro v ⟨⟩
      exact moved
    · intro k hk
      dsimp only at hk
      split at hk
      · cases hk
        exact moved
      · exact h.anchor k hk

theorem newRate_le {v : Nat} (h : newRate p arrival a = some v) : v ≤ 2000 := by
  unfold newRate at h
  split at h
  · split at h
    · cases h
      exact Nat.min_le_left ..
    · cases h
  · cases h

theorem Assigned.InRange.stage6 (h : a.InRange) : (stage6 p arrival a).InRange := by
  refine { h with anchor := fun k hk => ?_, rate := fun v hv => ?_ }
  · replace hk : movedAnchor arrival a = some k := hk
    unfold movedAnchor at hk
    split at hk
    · next k' f hk' hf =>
      split at hk
      · cases hk
        exact h.f16 f hf
      · cases hk
        exact h.anchor _ hk'
    · exact h.anchor k hk
  · simp only [Machine.stage6] at hv
    split at hv
    · next r hr =>
      cases hv
      exact newRate_le hr
    · exact h.rate v hv

theorem calibrated_inRange (h : a.InRange) (hp : p.inRange = true) :
    (calibrated p e arrival a).InRange := by
  have sample : mapFill p (surfaceOver p e (longOffset p e a)) * 16 ≤ 16000 :=
    Nat.mul_le_mul_right 16 (mapFill_le hp _)
  exact {
    offset := clampInt_bounds (by decide)
    samples := Nat.zero_le _
    f16 := by rintro v ⟨⟩; exact sample
    anchor := by rintro k ⟨⟩; exact sample
    rate := by rintro v ⟨⟩
    battery := h.battery }

/-! ### The effect of a frame (R38 to R42, R72) -/

theorem batteryOf_le {v : Nat} (h : batteryOf payload = some v) : v ≤ 5000 := by
  unfold batteryOf at h
  dsimp only at h
  split at h
  · cases h
  · cases h
    exact Nat.min_le_right ..

theorem Assigned.InRange.applyCommon (h : a.InRange) :
    (applyCommon p payload arrival a).InRange := by
  refine { h with battery := fun v hv => ?_ }
  rw [applyCommon_battery, Option.or_eq_some_iff] at hv
  rcases hv with hv | ⟨-, hv⟩
  · exact batteryOf_le hv
  · exact h.battery v hv

theorem Assigned.InRange.leaveSilent (h : a.InRange) (hl : OffsetRange learned) :
    (leaveSilent learned a).InRange := by
  unfold Machine.leaveSilent
  split
  · cases learned with
    | none => exact { h with offset := offset_zero, samples := Nat.zero_le _ }
    | some v => exact { h with offset := hl v rfl, samples := Nat.zero_le _ }
  · exact h

theorem activeReading_inRange (h : a.InRange) (hp : p.inRange = true) :
    (activeReading p env e clamped arrival a learned).record.InRange :=
  ((h.stage4 _).stage5 (Profile.limits_of_inRange hp).2.1 (mapFill_le hp _)).stage6

theorem learningReading_inRange (h : a.InRange) (hp : p.inRange = true) :
    (learningReading p env e clamped arrival a learned).record.InRange := by
  unfold learningReading
  split
  · next hl => exact { h with samples := by simpa using hl }
  · rw [longCalibration_record]
    exact (calibrated_inRange h hp).stage6

theorem applyReading_inRange (h : a.InRange) (hp : p.inRange = true) :
    (applyReading p env payload arrival a learned).record.InRange := by
  by_cases hs : a.state = .learning
  · rw [applyReading_of_learning hs]
    split
    · exact h
    · exact learningReading_inRange h hp
  · rw [applyReading_of_not_learning hs]
    split
    · exact h
    · exact activeReading_inRange h hp

theorem applyInstall_inRange (h : a.InRange) : (applyInstall a).record.InRange where
  offset := offset_zero
  samples := Nat.zero_le _
  f16 := by rintro v ⟨⟩
  anchor := by rintro k ⟨⟩
  rate := by rintro v ⟨⟩
  battery := h.battery

theorem applyKind_inRange (h : a.InRange) (hp : p.inRange = true) :
    (applyKind p env payload arrival a learned).record.InRange := by
  unfold applyKind
  split
  · exact applyReading_inRange h hp
  · exact applyInstall_inRange h
  · exact h

/-! ### Calibration entries (R34, R42, R87, R92) -/

/-- What the effect of a frame can do to a bin's state, offset and calibration entry: all three stay,
and a LEARNING bin hands nothing over; offset and entry take one value held to −120..+120; or the bin
learns again from nothing and its due entry goes. -/
inductive Completion.Calibrates (a : Assigned) (learned : Option Int) (c : Completion) : Prop
  | kept (hs : c.record.state = a.state) (ho : c.record.offset = a.offset)
      (hl : c.learned = learned) (hd : c.due = .nothing ∨ a.state ≠ .learning)
  | taken (v : Int) (hs : c.record.state ≠ .learning)
      (ho : c.record.offset = clampInt (-120) 120 v)
      (hl : c.learned = some (clampInt (-120) 120 v))
  | cleared (hs : c.record.state = .learning) (ho : c.record.offset = 0) (hl : c.learned = none)
      (hd : c.due = .removal)

/-- A collection that sees the floor makes the short calibration; any other sample keeps the offset
(R87). -/
theorem stage5_offset (fill : Nat) : (stage5 p e fill arrival a).offset =
    if isCollection p fill a && seesFloor p e.surf then shortOffset p e.corr a.offset
    else a.offset := by
  unfold stage5
  split
  · next h => simp [h]
  · next h => simp [h]

theorem stage5_state (fill : Nat) : (stage5 p e fill arrival a).state = a.state := by
  unfold stage5
  split <;> rfl

theorem calibrates_activeReading (hs : a.state ≠ .learning) :
    (activeReading p env e clamped arrival a learned).Calibrates a learned := by
  have state : (activeReading p env e clamped arrival a learned).record.state = a.state :=
    stage5_state (a := stage4 p e.surf a) _
  have offset : (activeReading p env e clamped arrival a learned).record.offset = _ :=
    stage5_offset (p := p) (e := e) (arrival := arrival) (a := stage4 p e.surf a) (mapFill p e.surf)
  have entry : (activeReading p env e clamped arrival a learned).learned =
      if isCollection p (mapFill p e.surf) a && seesFloor p e.surf then
        some (activeReading p env e clamped arrival a learned).record.offset else learned := rfl
  by_cases h : (isCollection p (mapFill p e.surf) a && seesFloor p e.surf) = true
  · have short := offset.trans (if_pos h)
    rw [if_pos h, short] at entry
    exact .taken _ (state ▸ hs) short entry
  · exact .kept state (offset.trans (if_neg h)) (entry.trans (if_neg h)) (.inr hs)

theorem calibrates_learningReading :
    (learningReading p env e clamped arrival a learned).Calibrates a learned := by
  unfold learningReading
  split
  · exact .kept rfl rfl rfl (.inl rfl)
  · exact .taken _ (fun h => by cases h) rfl rfl

theorem calibrates_applyReading :
    (applyReading p env payload arrival a learned).Calibrates a learned := by
  by_cases hs : a.state = .learning
  · rw [applyReading_of_learning hs]
    split
    · exact .kept rfl rfl rfl (.inl rfl)
    · exact calibrates_learningReading
  · rw [applyReading_of_not_learning hs]
    split
    · exact .kept rfl rfl rfl (.inl rfl)
    · exact calibrates_activeReading hs

theorem calibrates_applyKind :
    (applyKind p env payload arrival a learned).Calibrates a learned := by
  unfold applyKind
  split
  · exact calibrates_applyReading
  · exact .cleared rfl rfl rfl rfl
  · exact .kept rfl rfl rfl (.inl rfl)

theorem Completion.Calibrates.range {c : Completion} (h : c.Calibrates a learned)
    (hl : OffsetRange learned) : OffsetRange c.learned := by
  cases h with
  | kept _ _ he _ => exact he ▸ hl
  | taken v _ _ he => exact he ▸ .clamp v
  | cleared _ _ he _ =>
    rw [he]
    rintro v ⟨⟩

/-- Settles O23: R38, R39 and the effect of the frame's kind each keep the ranges. -/
theorem completionKeepsFieldsInRange : Obligations.CompletionKeepsFieldsInRange := by
  intro p env payload arrival gap a learned c hp ha hl hc
  rw [hc]
  exact ⟨applyKind_inRange (ha.applyCommon.leaveSilent hl) hp, calibrates_applyKind.range hl⟩

end Sys2Proof.Machine
end

section
/-! PROOFS. Every step keeps offsets and calibration entries in agreement with the bin states, and the
collection-due queue ordered and for tracked bins alone (R33, R34, R39, R47, R113). -/

namespace Sys2Proof.Machine

open Sys2Proof.Statements

variable {s t u : State} {r : Request} {a : Assigned} {learned : Option Int} {b : Nat}

/-! ### One bin and its calibration entry -/

/-- A record agrees with its bin's calibration entry (R33, R39, R47). -/
structure Assigned.Agrees (a : Assigned) (c : Option Int) : Prop where
  offset : a.offset = c.getD 0
  active : a.state = .active → c.isSome = true
  learning : a.state = .learning → c = none

/-- A bin that may have a due entry: ACTIVE, or SILENT with a learned offset (R113). -/
def Assigned.Tracked (a : Assigned) (c : Option Int) : Prop :=
  a.state ≠ .learning ∧ c.isSome = true

theorem Assigned.Agrees.of_byCalibration (h : ByCalibration learned a) : a.Agrees learned := by
  cases learned with
  | none => exact ⟨h.2, fun ha => (by cases h.1.symm.trans ha), fun _ => rfl⟩
  | some v => exact ⟨h.2, fun _ => rfl, fun hl => (by cases h.1.symm.trans hl)⟩

theorem Assigned.Agrees.of_same {a' : Assigned} (h : a.Agrees learned) (hs : a'.state = a.state)
    (ho : a'.offset = a.offset) : a'.Agrees learned :=
  ⟨ho.trans h.offset, hs ▸ h.active, hs ▸ h.learning⟩

theorem Completion.Calibrates.agrees {c : Completion} (h : c.Calibrates a learned)
    (ha : a.Agrees learned) : c.record.Agrees c.learned := by
  cases h with
  | kept hs ho hl _ =>
    rw [hl]
    exact ha.of_same hs ho
  | taken v hs ho hl => exact ⟨by rw [ho, hl]; rfl, fun _ => by rw [hl]; rfl, fun h => absurd h hs⟩
  | cleared hs ho hl _ =>
    exact ⟨by rw [ho, hl]; rfl, fun h => (by cases hs.symm.trans h), fun _ => hl⟩

/-- Where no due update is handed over a tracked bin stays tracked (R40, R41, R83). -/
theorem Completion.Calibrates.tracked_of_nothing {c : Completion} (h : c.Calibrates a learned)
    (hd : c.due = .nothing) (ha : a.Tracked learned) : c.record.Tracked c.learned := by
  cases h with
  | kept hs _ hl _ => exact ⟨hs ▸ ha.1, hl ▸ ha.2⟩
  | taken v hs _ hl => exact ⟨hs, by rw [hl]; rfl⟩
  | cleared _ _ _ hr => cases hr.symm.trans hd

/-- A prediction is handed over for a tracked bin alone (R91, R113). -/
theorem Completion.Calibrates.tracked_of_prediction {c : Completion} (h : c.Calibrates a learned)
    (hn : a.state ≠ .silent) (ha : a.Agrees learned) {due : Nat} {isOver coarse : Bool}
    (hd : c.due = .prediction due isOver coarse) : c.record.Tracked c.learned := by
  cases h with
  | kept hs _ hl hk =>
    rcases hk with hk | hk
    · cases hk.symm.trans hd
    · have active : a.state = .active := by cases ha' : a.state <;> simp_all
      exact ⟨hs ▸ hk, hl ▸ ha.active active⟩
  | taken v hs _ hl => exact ⟨hs, by rw [hl]; rfl⟩
  | cleared _ _ _ hr => cases hr.symm.trans hd

/-- R39 leaves a bin in agreement, out of SILENT, and tracked where it was. -/
theorem leaveSilent_agrees (ha : a.Agrees learned) :
    (leaveSilent learned a).Agrees learned ∧ (leaveSilent learned a).state ≠ .silent ∧
      (a.Tracked learned → (leaveSilent learned a).Tracked learned) := by
  unfold leaveSilent
  split
  · cases learned with
    | none =>
      exact ⟨.of_byCalibration ⟨rfl, rfl⟩, fun h => (by cases h), fun h => (by cases h.2)⟩
    | some v =>
      exact ⟨.of_byCalibration ⟨rfl, rfl⟩, fun h => (by cases h),
        fun _ => ⟨fun h => (by cases h), rfl⟩⟩
  · next hs => exact ⟨ha, hs, id⟩

/-- What a completion leaves of its bin: agreement, an offset in range, and a due update that fits. -/
structure Completion.Fits (c : Completion) (a : Assigned) (learned : Option Int) : Prop where
  agrees : c.record.Agrees c.learned
  range : OffsetRange c.learned
  nothing : c.due = .nothing → a.Tracked learned → c.record.Tracked c.learned
  prediction : ∀ due isOver coarse, c.due = .prediction due isOver coarse →
    c.record.Tracked c.learned

theorem completion_fits {p : Profile} {env : Surroundings} {payload : List Byte} {arrival : Nat}
    {gap : Option Nat} (ha : a.Agrees learned) (hl : OffsetRange learned) :
    (completion p env payload arrival gap a learned).Fits a learned := by
  have written : (applyCommon p payload arrival a).Agrees learned := ha.of_same rfl rfl
  obtain ⟨left, awake, tracked⟩ := leaveSilent_agrees written
  have own := calibrates_applyKind (p := p) (env := env) (payload := payload) (arrival := arrival)
    (a := leaveSilent learned (applyCommon p payload arrival a)) (learned := learned)
  exact ⟨own.agrees left, own.range hl, fun hd ht => own.tracked_of_nothing hd (tracked ht),
    fun _ _ _ hd => own.tracked_of_prediction awake left hd⟩

/-! ### The invariant -/

/-- Calibration and collection-due queue agree with the bins, as one property. -/
structure State.BinsSound (s : State) : Prop where
  calibration : s.CalibrationSound
  due : s.DueSound

theorem State.DueSound.dueOrdered (h : s.DueSound) : DueOrdered s.due := ⟨h.bins, h.ordered⟩

theorem State.CalibrationSound.agrees (h : s.CalibrationSound) (ha : s.assigned b = some a) :
    a.Agrees (s.learned b) :=
  ⟨h.offset b a ha, h.active b a ha, h.learning b a ha⟩

theorem State.DueSound.tracked (h : s.DueSound) {e : DueEntry} (he : e ∈ s.due) :
    ∃ a, s.assigned e.bin = some a ∧ a.Tracked (s.learned e.bin) := h.live e he

/-- Where every bin and every due entry is sound the state is. -/
theorem State.BinsSound.of_bins
    (bins : ∀ i, OffsetRange (t.learned i) ∧
      ∀ a, t.assigned i = some a → a.Agrees (t.learned i))
    (ordered : DueOrdered t.due)
    (live : ∀ e ∈ t.due, ∃ a, t.assigned e.bin = some a ∧ a.Tracked (t.learned e.bin)) :
    t.BinsSound :=
  ⟨⟨fun i a ha => ((bins i).2 a ha).offset, fun i a ha => ((bins i).2 a ha).active,
    fun i a ha => ((bins i).2 a ha).learning, fun i => (bins i).1⟩,
    ⟨ordered.bins, ordered.ordered, live⟩⟩

namespace State.BinsSound

theorem of_eq (h : s.BinsSound) (ha : ∀ i, t.assigned i = s.assigned i)
    (hl : ∀ i, t.learned i = s.learned i) (hd : t.due = s.due) : t.BinsSound := by
  refine of_bins (fun i => ?_) (hd ▸ h.due.dueOrdered) fun e he => ?_
  · rw [ha, hl]
    exact ⟨h.calibration.range i, fun a hi => h.calibration.agrees hi⟩
  · rw [ha, hl]
    exact h.due.tracked (hd ▸ he)

theorem of_tables (h : s.BinsSound) (hr : t.bins.records = s.bins.records)
    (hc : t.bins.calibration = s.bins.calibration) (hd : t.due = s.due) : t.BinsSound :=
  h.of_eq (fun i => by simp only [State.assigned, State.record, hr])
    (fun i => by simp only [State.learned, hc]) hd

/-- One bin written: it agrees with its calibration entry, and due entries of its own are there only
where it is tracked, others only where they were. -/
theorem write (h : s.BinsSound) (b : Nat)
    (others : ∀ i, i ≠ b → t.assigned i = s.assigned i ∧ t.learned i = s.learned i)
    (range : OffsetRange (t.learned b))
    (agrees : ∀ a, t.assigned b = some a → a.Agrees (t.learned b))
    (ordered : DueOrdered t.due)
    (due : ∀ e ∈ t.due, (e.bin ≠ b → ∃ x ∈ s.due, x.bin = e.bin) ∧
      (e.bin = b → ∃ a, t.assigned b = some a ∧ a.Tracked (t.learned b))) : t.BinsSound := by
  refine of_bins (fun i => ?_) ordered fun e he => ?_
  · by_cases hi : i = b
    · subst hi
      exact ⟨range, agrees⟩
    · obtain ⟨ha, hl⟩ := others i hi
      rw [ha, hl]
      exact ⟨h.calibration.range i, fun a hi => h.calibration.agrees hi⟩
  · obtain ⟨hne, heq⟩ := due e he
    by_cases hb : e.bin = b
    · rw [hb]
      exact heq hb
    · obtain ⟨x, hx, hxe⟩ := hne hb
      obtain ⟨ha, hl⟩ := others e.bin hb
      rw [ha, hl, ← hxe]
      exact h.due.tracked hx

theorem reset : State.reset.BinsSound :=
  ⟨reset_calibrationSound, ⟨List.nodup_nil, List.Pairwise.nil, List.forall_mem_nil _⟩⟩

/-! ### Completions and the sweep -/

/-- What a completion writes and hands over (R72, R75). -/
theorem handedOver (h : s.BinsSound) (hr : s.bins.records.wf = true)
    (hc : s.bins.calibration.wf = true) {e : Estimate} {c : Completion}
    (ha : s.assigned e.frame.bin = some a) (hf : c.Fits a (s.learned e.frame.bin)) :
    (s.handedOver e c).BinsSound := by
  obtain ⟨w, hw, assigned, learned, ordered, due, handed⟩ : ∃ w : State,
      w.bins.records.wf = true ∧
      (∀ i, w.assigned i = if i = e.frame.bin then some c.record else s.assigned i) ∧
      (∀ i, w.learned i = if i = e.frame.bin then c.learned else s.learned i) ∧
      DueOrdered w.due ∧ (∀ x ∈ w.due, ∃ y ∈ s.due, y.bin = x.bin) ∧
      s.handedOver e c = w.handDue e.frame.bin e.district c.due := by
    have records : (s.setAssigned e.frame.bin (some c.record)).bins.records.wf = true :=
      Table.wf_set hr ..
    have assigned := fun i => State.assigned_setAssigned hr e.frame.bin i (some c.record)
    have learned := fun i => State.learned_setLearned hc e.frame.bin i c.learned
    have ordered := h.due.dueOrdered
    unfold State.handedOver
    dsimp only
    cases c.clearSilent with
    | false =>
      exact ⟨(s.setAssigned e.frame.bin (some c.record)).setLearned e.frame.bin c.learned, records,
        assigned, learned, ordered, fun x hx => ⟨x, hx, rfl⟩, rfl⟩
    | true =>
      exact ⟨((s.setAssigned e.frame.bin (some c.record)).setLearned e.frame.bin
        c.learned).handSilent e.frame.bin false, records, assigned, learned, ordered.handSilent,
        fun x => mem_handSilent (s := s), rfl⟩
  have own : w.assigned e.frame.bin = some c.record := (assigned _).trans (if_pos rfl)
  have entry : w.learned e.frame.bin = c.learned := (learned _).trans (if_pos rfl)
  rw [handed]
  refine h.write e.frame.bin (fun i hi => ?_) ?_ (fun a' ha' => ?_) (ordered.handDue ..)
    fun x hx => ?_
  · rw [State.assigned_handDue hw, State.learned_handDue, assigned, learned, if_neg hi, if_neg hi]
    exact ⟨rfl, rfl⟩
  · rw [State.learned_handDue, entry]
    exact hf.range
  · rw [State.assigned_handDue hw, own] at ha'
    cases ha'
    rw [State.learned_handDue, entry]
    exact hf.agrees
  · rw [State.assigned_handDue hw, State.learned_handDue, own, entry]
    rcases mem_handDue hx with ⟨hm, hn⟩ | ⟨hb, due, isOver, coarse, hp⟩
    · obtain ⟨y, hy, hyb⟩ := due x hm
      refine ⟨fun _ => ⟨y, hy, hyb⟩, fun hb => ⟨_, rfl, hf.nothing (hn hb) ?_⟩⟩
      obtain ⟨a', ha', ht⟩ := h.due.tracked hy
      rw [hyb, hb] at ha' ht
      cases ha.symm.trans ha'
      exact ht
    · exact ⟨fun hne => absurd hb hne, fun _ => ⟨_, rfl, hf.prediction due isOver coarse hp⟩⟩

theorem complete (h : s.BinsSound) (hr : s.bins.records.wf = true)
    (hc : s.bins.calibration.wf = true) (e : Estimate) : (s.complete e).BinsSound := by
  unfold State.complete
  split
  · next a ha =>
    have handed := h.handedOver hr hc ha (completion_fits (p := s.profileOf a.profile)
      (env := s.surroundings) (payload := e.frame.payload) (arrival := e.frame.arrival)
      (gap := e.gap) (h.calibration.agrees ha) (h.calibration.range _))
    refine handed.of_tables ?_ ?_ ?_ <;>
      · rw [State.applyCompletion_eq, State.tallyCompletion_frame]
        rfl
  · exact h.of_tables rfl rfl rfl

/-- A bin made SILENT keeps its offset, and its due entry where it had one (R44). -/
theorem makeSilent (h : s.BinsSound) (hr : s.bins.records.wf = true)
    (ha : s.assigned b = some a) : (s.makeSilent b a).BinsSound := by
  have assigned := fun i => State.assigned_setAssigned hr b i
    (some { a with state := .silent, samples := [] })
  obtain ⟨q, hq, ordered, due⟩ : ∃ q, s.makeSilent b a = State.raise
      { cls := .silent, row := a.district, bin := some b, origin := none
        value := (a.fillOrZero : Int) }
      { s.setAssigned b (some { a with state := .silent, samples := [] }) with due := q } ∧
      DueOrdered q ∧ ∀ x ∈ q, ∃ y ∈ s.due, y.bin = x.bin := by
    unfold State.makeSilent
    dsimp only
    split
    · exact ⟨_, rfl, h.due.dueOrdered.handSilent, fun x => mem_handSilent⟩
    · exact ⟨_, rfl, h.due.dueOrdered, fun x hx => ⟨x, hx, rfl⟩⟩
  rw [hq]
  have own := (assigned b).trans (if_pos rfl)
  refine h.write b (fun i hi => ⟨(assigned i).trans (if_neg hi), rfl⟩) (h.calibration.range b)
    (fun a' ha' => ?_) ordered fun x hx => ?_
  · cases own.symm.trans ha'
    exact ⟨(h.calibration.agrees ha).offset, fun h => (by cases h), fun h => (by cases h)⟩
  · obtain ⟨y, hy, hyb⟩ := due x hx
    refine ⟨fun _ => ⟨y, hy, hyb⟩, fun hb => ⟨_, own, fun h => (by cases h), ?_⟩⟩
    obtain ⟨a', ha', ht⟩ := h.due.tracked hy
    rw [hyb, hb] at ht
    exact ht.2

theorem sweep (h : s.BinsSound) (hr : s.bins.records.wf = true) : s.sweep.BinsSound := by
  unfold State.sweep
  generalize s.sweptBins = bins
  induction bins generalizing s with
  | nil => exact h
  | cons b rest ih =>
    refine ih ?_ ((State.KeepsAssignments.sweepBin b).records hr)
    unfold State.sweepBin
    split
    · next a ha =>
      split
      · exact h.makeSilent hr ha
      · exact h
    · exact h

end State.BinsSound

/-! ### The changes (R46 to R52, R63 to R65) -/

namespace State.BinsSound

theorem deviceSet (h : s.BinsSound) {x : Contents} {m : Option Mapping}
    (hd : DeviceSet s t r x m) : t.BinsSound := by
  obtain ⟨-, -, -, hdue, hc, -⟩ := id hd
  exact h.of_eq (assigned_of_deviceSet hd) (fun i => by simp only [State.learned, hc]) hdue

/-- LOAD BIN leaves an EMPTY bin and a reset one in the state of its calibration entry and without a
due entry; a kept one stays as it was (R47, R48). -/
theorem binLoaded (h : s.BinsSound) {x : Contents} {relearn : Bool}
    (hl : ∀ v, learned = some v → s.learned b = some v)
    (hb : BinLoaded s t r x b relearn learned) : t.BinsSound := by
  obtain ⟨-, -, -, others, -, n, hn, -, -, -, fresh, reset, keep⟩ := hb
  have others' : ∀ i, i ≠ b → t.assigned i = s.assigned i ∧ t.learned i = s.learned i :=
    fun i hi => ⟨congrArg BinRecord.assigned (others i hi).1, (others i hi).2⟩
  have range : OffsetRange learned := fun v hv => h.calibration.range b v (hl v hv)
  -- a bin made anew: in the state of its calibration entry, its due entry gone
  have anew : ∀ {q : List DueEntry}, ByCalibration learned n → t.learned b = learned →
      t.due = q → q.Sublist s.due → (∀ e ∈ q, e.bin ≠ b) → t.BinsSound := by
    intro q hby hle hdue hq hgone
    refine h.write b others' (hle ▸ range) (fun a ha => ?_) (hdue ▸ h.due.dueOrdered.sublist hq)
      fun e he => ⟨fun _ => ⟨e, hq.subset (hdue ▸ he), rfl⟩, fun hb => absurd hb (hgone e (hdue ▸ he))⟩
    cases hn.symm.trans ha
    rw [hle]
    exact .of_byCalibration hby
  cases ha : s.assigned b with
  | none =>
    obtain ⟨-, hby, -, -, -, -, -, -, -, hle, hdue, -⟩ := fresh ha
    refine anew hby hle hdue (List.Sublist.refl _) fun e he hb => ?_
    obtain ⟨a, ha', -⟩ := h.due.tracked he
    rw [hb, ha] at ha'
    cases ha'
  | some a =>
    by_cases hr : relearn = true ∨ a.profile ≠ r.arg8 3
    · obtain ⟨-, hby, -, -, -, -, hle, hdue, -⟩ := reset a ha hr
      exact anew hby hle hdue List.filter_sublist fun e he => (mem_dropDue.1 he).2
    · obtain ⟨hf, hp⟩ := not_or.1 hr
      obtain ⟨-, hs, ho, -, -, -, -, hle, hdue, -⟩ :=
        keep a ha (Bool.eq_false_iff.2 hf) (not_not.1 hp)
      refine h.write b others' (hle ▸ h.calibration.range b) (fun a' ha' => ?_)
        (hdue ▸ h.due.dueOrdered.map (fun x => by split <;> rfl) fun x => by split <;> rfl)
        fun e he => ?_
      · cases hn.symm.trans ha'
        rw [hle]
        exact (h.calibration.agrees ha).of_same hs ho
      · obtain ⟨y, hy, hye⟩ : ∃ y ∈ s.due, y.bin = e.bin := by
          rw [hdue] at he
          obtain ⟨y, hy, rfl⟩ := List.mem_map.1 he
          exact ⟨y, hy, by split <;> rfl⟩
        refine ⟨fun _ => ⟨y, hy, hye⟩, fun hb => ⟨n, hn, ?_⟩⟩
        obtain ⟨a', ha', ht⟩ := h.due.tracked hy
        rw [hye, hb] at ha' ht
        cases ha.symm.trans ha'
        exact ⟨hs ▸ ht.1, hle ▸ ht.2⟩

/-- Bins that are retired have no record and no due entry left; their calibration entries stay or are
cleared (R50, R51). -/
theorem binsRetired (h : s.BinsSound) {bins : List Nat} {f : Bool}
    (hb : s.BinsRetired t bins f) : t.BinsSound := by
  have assigned : ∀ i, t.assigned i = if i ∈ bins then none else s.assigned i := fun i => by
    rw [State.assigned, hb.record]
    split <;> rfl
  refine of_bins (fun i => ⟨fun v hv => ?_, fun a ha => ?_⟩)
    (hb.due ▸ h.due.dueOrdered.sublist List.filter_sublist) fun e he => ?_
  · rw [hb.learned] at hv
    split at hv
    · cases hv
    · exact h.calibration.range i v hv
  · rw [assigned] at ha
    split at ha
    · cases ha
    · next hi =>
      rw [hb.learned, if_neg (mt And.left hi)]
      exact h.calibration.agrees ha
  · rw [hb.due, List.mem_filter, decide_eq_true_eq] at he
    obtain ⟨he, hi⟩ := he
    rw [assigned, if_neg hi, hb.learned, if_neg (mt And.left hi)]
    exact h.due.tracked he

/-- A bin that a new geometry resets takes the state of its calibration entry and loses its due entry
(R65). -/
theorem resetBin (h : s.BinsSound) (hr : s.bins.records.wf = true) (b : Nat) :
    (s.resetBin b).BinsSound := by
  unfold State.resetBin
  split
  · next a ha =>
    have assigned : ∀ i, (State.handRemoval b (s.setAssigned b
        (some (a.reassigned (s.learned b) s.time.seconds)))).assigned i =
          if i = b then some (a.reassigned (s.learned b) s.time.seconds) else s.assigned i :=
      fun i => (State.assigned_setUnqueued (Table.wf_set hr ..) ..).trans
        (State.assigned_setAssigned hr ..)
    refine h.write b (fun i hi => ⟨(assigned i).trans (if_neg hi), rfl⟩) (h.calibration.range b)
      (fun a' ha' => ?_) (h.due.dueOrdered.dropDue b) fun e he => ?_
    · cases ((assigned b).trans (if_pos rfl)).symm.trans ha'
      exact .of_byCalibration (byCalibration_byCalibration ..)
    · obtain ⟨hm, hne⟩ := mem_dropDue.1 he
      exact ⟨fun _ => ⟨e, hm, rfl⟩, fun hb => absurd hb hne⟩
  · exact h

theorem applyLoadProfile (h : s.BinsSound) (hr : s.bins.records.wf = true) :
    (applyLoadProfile r s).1.BinsSound := by
  unfold Machine.applyLoadProfile
  cases r.profile with
  | none => exact h
  | some p =>
    dsimp only
    generalize (if geometryChanges (s.profiles.get (r.arg8 0)) p then s.binsNaming (r.arg8 0)
      else []) = bins
    have loaded : (s.setProfile (r.arg8 0) (some p.held)).BinsSound := h.of_tables rfl rfl rfl
    have hr' : (s.setProfile (r.arg8 0) (some p.held)).bins.records.wf = true := hr
    generalize s.setProfile (r.arg8 0) (some p.held) = u at loaded hr'
    induction bins generalizing u with
    | nil => exact loaded
    | cons b rest ih =>
      exact ih _ (loaded.resetBin hr' b) ((State.KeepsAssignments.resetBin b).records hr')

/-- Every change of the tables keeps calibration and collection-due queue sound. -/
theorem applyChange (h : s.BinsSound) (hcan : s.Canonical) : (applyChange r s).1.BinsSound := by
  have hr := Table.wf_of_canonical hcan.records
  cases ho : r.operation with
  | none =>
    rw [Machine.applyChange, ho]
    exact h
  | some op =>
    rw [Machine.applyChange, ho]
    cases op with
    | loadPrefix | clearPrefix => exact h.of_tables rfl rfl rfl
    | loadDevice => exact h.deviceSet (applyLoadDevice_deviceSet hcan.devices hr)
    | clearDevice => exact h.deviceSet (applyClearDevice_deviceSet hcan.devices hr)
    | loadBin =>
      refine h.binLoaded (fun v hv => ?_) (applyLoadBin_binLoaded hr hcan.calibration)
      split at hv
      · cases hv
      · exact hv
    | retireBin =>
      exact h.binsRetired (State.binsRetired_foldl hcan.devices hr hcan.calibration
        [r.arg16 0] (r.option 2))
    | clearDistrict =>
      exact h.binsRetired (State.binsRetired_foldl hcan.devices hr hcan.calibration _ _)
    | loadProfile => exact h.applyLoadProfile hr
    | _ => exact h

/-! ### Commands -/

theorem sameTables (h : s.BinsSound) (ht : s.SameTables t) : t.BinsSound :=
  h.of_tables (congrArg Bins.records ht.bins) (congrArg Bins.calibration ht.bins) ht.due

theorem of_ledger (h : s.BinsSound) (ht : t.ledger = s.ledger) : t.BinsSound :=
  h.of_tables (congrArg Ledger.records ht) (congrArg Ledger.calibration ht)
    (congrArg Ledger.due ht)

/-- No command but the changes, a completion and the sweep reaches records, calibration entries and
the collection-due queue. -/
theorem ledgerStep (h : s.BinsSound) (hl : s.LedgerStep t) : t.BinsSound := by
  cases hl with
  | same ht | joined _ ht | answered _ ht | started _ _ _ _ ht | timedOut _ _ ht | restarted ht =>
    exact h.of_tables (congrArg Ledger.records ht) (congrArg Ledger.calibration ht)
      (congrArg Ledger.due ht)

theorem carryChange (h : s.BinsSound) (hcan : s.Canonical) (hc : s.gates.change = none) :
    (s.carryChange Machine.applyChange (s.gateSet r) r).BinsSound := by
  cases hd : s.gates.drained (s.gateSet r) with
  | true =>
    exact (h.applyChange hcan).sameTables
      (carryChange_settled (Table.wf_of_canonical hcan.gates) hc hd).2
  | false =>
    have he : s.gateSet r ≠ [] := by
      intro he
      rw [he] at hd
      cases hd
    rw [State.carryChange_waits he hd]
    exact h.of_tables rfl rfl rfl

theorem serve_change (h : s.BinsSound) (hcan : s.Canonical) {op : Operation}
    {check : State → Request → Option Result} {apply : Request → State → Applied}
    {ds : Request → State → List Nat}
    (ha : ∀ r u, r.operation = some op → apply r u = Machine.applyChange r u)
    (hg : ∀ r, r.operation = some op → s.gateSet r = ds r s) :
    (s.serve (isOp op) check fun r s => s.carryChange apply (ds r s) r).BinsSound := by
  rcases State.serve_cases (isOp op) check (fun r s => s.carryChange apply (ds r s) r) s with
    hs | ⟨r, hr, hop, ⟨x, -, hs⟩ | ⟨-, hs⟩⟩ <;> rw [hs]
  · exact h
  · exact h.of_tables rfl rfl rfl
  · rw [isOp_iff] at hop
    rw [State.carryChange_congr (ha r · hop), ← hg r hop]
    exact h.carryChange hcan (State.head_eq_some.1 hr).2.1

theorem whenRunning {f : State → State} (h : s.BinsSound) (hf : (f s).BinsSound) :
    (s.whenRunning f).BinsSound := by
  unfold State.whenRunning
  split
  · exact hf
  · exact h

end State.BinsSound

theorem execChangeApplication_keeps_binsSound (h : s.BinsSound) (hcan : s.Canonical) :
    Keeps State.BinsSound (execChangeApplication s) := by
  refine keeps_next (h.whenRunning ?_)
  split
  · split
    · exact (h.applyChange hcan).sameTables (State.sameTables_reopen ..)
    · exact h
  · exact h

theorem execEstimateCompletion_keeps_binsSound (h : s.BinsSound) (hcan : s.Canonical)
    (bin : Nat) : Keeps State.BinsSound (execEstimateCompletion bin s) := by
  refine keeps_next (h.whenRunning ?_)
  split
  · exact h.complete (Table.wf_of_canonical hcan.records) hcan.calibration _
  · exact h

theorem execSilenceSweep_keeps_binsSound (h : s.BinsSound) (hcan : s.Canonical) :
    Keeps State.BinsSound (execSilenceSweep s) := by
  refine keeps_next (h.whenRunning ?_)
  dsimp only
  split
  · split
    · exact (h.sweep (Table.wf_of_canonical hcan.records)).of_tables rfl rfl rfl
    · exact h
  · exact h

theorem execPowerOn_keeps_binsSound (h : s.BinsSound) :
    Keeps State.BinsSound (execPowerOn s) := by
  refine keeps_next ?_
  split
  · exact h
  · exact State.BinsSound.reset.of_tables rfl rfl rfl

/-! ### Every command and every step -/

theorem exec_keeps_binsSound (c : Instr) (h : s.BinsSound) (hcan : s.Canonical) :
    Keeps State.BinsSound (exec c s) := by
  by_cases hs : c = .silenceSweep
  · subst hs
    exact execSilenceSweep_keeps_binsSound h hcan
  by_cases he : ∃ b, c = .estimateCompletion b
  · obtain ⟨b, rfl⟩ := he
    exact execEstimateCompletion_keeps_binsSound h hcan b
  by_cases hc : altersTables c = false
  · exact (exec_ledgerStep c hc hs fun b hb => he ⟨b, hb⟩).mono fun _ => h.ledgerStep
  cases c with
  | loadPrefix | clearPrefix | loadDevice | clearDevice | loadBin | retireBin | clearDistrict
  | loadProfile =>
    exact keeps_next (h.serve_change hcan (fun _ _ ho => by rw [applyChange, ho])
      fun _ ho => by rw [State.gateSet, ho])
  | changeApplication => exact execChangeApplication_keeps_binsSound h hcan
  | powerOn => exact execPowerOn_keeps_binsSound h
  | _ => exact absurd rfl hc

theorem step_keeps_binsSound (h : s.BinsSound) (hcan : s.Canonical) :
    Keeps State.BinsSound (step s) := by
  unfold step
  split
  · unfold idle
    split
    · exact exec_keeps_binsSound _ h hcan
    · exact keeps_next (h.of_ledger State.ledger_tick)
  · exact exec_keeps_binsSound _ (h.of_ledger rfl) (hcan.setPending _)

/-- Settles O56: each command keeps `State.BinsSound`. What it writes of a bin agrees with the bin's
calibration entry, and a due entry is there only for a bin that stays tracked. -/
theorem everyStepKeepsCalibrationAndDueQueue :
    Obligations.EveryStepKeepsCalibrationAndDueQueue := by
  intro s t hcan hc hd hs
  have kept := step_keeps_binsSound ⟨hc, hd⟩ hcan t hs
  exact ⟨kept.calibration, kept.due⟩

end Sys2Proof.Machine
end

section
/-! PROOFS. The start of a suppressed frame (R35 to R37), and the silence sweep (R43, R44). -/

namespace Sys2Proof.Machine

open Sys2Proof.Statements

variable {s t : State}

/-! ### A suppressed frame (R35 to R37) -/

theorem judge_duplicate {kind : Option FrameKind} {count : FrameCount}
    (hk : kind ≠ some .install) : judge kind (some count) count = .duplicate := by
  rw [judge, if_neg hk]
  dsimp only
  rw [if_pos (by simp)]

theorem judge_stale {kind : Option FrameKind} {l count : FrameCount}
    (hk : kind ≠ some .install) (hd : 32768 ≤ (count - l).toNat) :
    judge kind (some l) count = .stale := by
  rw [judge, if_neg hk]
  dsimp only
  rw [if_neg (by omega), if_pos hd]

/-- The end of a frame counts its outcome in one row and raises one event. -/
theorem ends_endFrame (h : s.gates.tallies.wf = true) (c : WatchClass) (row : Nat)
    (bin : Option Nat) (p : List Byte) (o : OutcomeCode) :
    Ends s (s.endFrame c row bin p o) row o (outcomeEvent c row bin p o) :=
  ends_of_tallyUp h rfl rfl

/-- Settles O14: a frame of an EMPTY bin, a duplicate and a stale frame each end without a slot. -/
theorem suppressedFrameLeavesTheRecord : Obligations.SuppressedFrameLeavesTheRecord := by
  intro s before after f hcan hr hl hq hb hf
  obtain ⟨u, hu⟩ : ∃ u : State, u = { s with
    intake := { s.intake with admission := before ++ after } } := ⟨_, rfl⟩
  have start := exec_estimateStart hr hl hq hb hf
  rw [← hu] at start
  have assigned : u.assigned f.bin = s.assigned f.bin := by rw [hu]; rfl
  have tallies : u.gates.tallies.wf = true := by
    rw [hu]
    exact Table.wf_of_canonical hcan.tallies
  -- the end of the frame, as each of the three tests gives it
  have empty : s.assigned f.bin = none →
      u.startFrame f = u.endFrame .unmapped 16 none f.payload .binEmpty := fun ha => by
    rw [State.startFrame, assigned, ha]
    rfl
  have duplicate : ∀ a l, s.assigned f.bin = some a → kindOf f.payload ≠ some .install →
      a.lastCount = some l → countOf f.payload = l →
      u.startFrame f = u.endFrame .repeated a.district (some f.bin) f.payload .duplicate :=
    fun a l ha hk hc he => by
      rw [State.startFrame, assigned, ha]
      dsimp only
      rw [hc, ← he, judge_duplicate hk]
  have stale : ∀ a l, s.assigned f.bin = some a → kindOf f.payload ≠ some .install →
      a.lastCount = some l → 32768 ≤ (countOf f.payload - l).toNat →
      u.startFrame f = u.endFrame .repeated a.district (some f.bin) f.payload .stale :=
    fun a l ha hk hc hd => by
      rw [State.startFrame, assigned, ha]
      dsimp only
      rw [hc, judge_stale hk hd]
  have ends : ∀ {c row bin o}, u.startFrame f = u.endFrame c row bin f.payload o →
      Ends s (u.startFrame f) row o (outcomeEvent c row bin f.payload o) ∧
      u.startFrame f = { s with
        intake := { s.intake with admission := before ++ after }
        gates := { s.gates with tallies := (u.startFrame f).gates.tallies }
        watch := (u.startFrame f).watch } := fun {c row bin o} he => by
    rw [he]
    have ended := ends_endFrame tallies c row bin f.payload o
    rw [hu] at ended ⊢
    exact ⟨ended, rfl⟩
  refine ⟨u.startFrame f, start, fun ha => (ends (empty ha)).1, fun a l ha hk hc =>
    ⟨fun he => (ends (duplicate a l ha hk hc he)).1,
      fun hd => (ends (stale a l ha hk hc hd)).1⟩, ?_⟩
  rintro (ha | ⟨a, l, ha, hk, hc, he | hd⟩)
  · exact (ends (empty ha)).2
  · exact (ends (duplicate a l ha hk hc he)).2
  · exact (ends (stale a l ha hk hc hd)).2

end Sys2Proof.Machine
end

section
/-! PROOFS. The silence sweep (R43, R44): what it makes of the bins of a list, one after another. -/

namespace Sys2Proof.Machine

open Sys2Proof.Statements

variable {s t u : State} {b : Nat} {a : Assigned}

/-! ### The bins found silent -/

theorem State.foundSilent_iff : s.foundSilent b a = true ↔ UnheardTooLong s b a := by
  simp [State.foundSilent, UnheardTooLong, State.binInFlight, and_assoc]

/-- A bin with its record, where a sweep finds it silent. -/
def State.foundAt (s : State) (b : Nat) : Option (Nat × Assigned) :=
  match s.assigned b with
  | some a => if s.foundSilent b a then some (b, a) else none
  | none => none

theorem State.foundAt_eq_some {i : Nat} :
    s.foundAt i = some (b, a) ↔ i = b ∧ s.assigned b = some a ∧ UnheardTooLong s b a := by
  unfold State.foundAt
  constructor
  · intro h
    split at h
    · next a' ha =>
      split at h
      · next hf =>
        cases h
        exact ⟨rfl, ha, State.foundSilent_iff.1 hf⟩
      · cases h
    · cases h
  · rintro ⟨rfl, ha, hu⟩
    rw [ha]
    exact if_pos (State.foundSilent_iff.2 hu)

/-- The record of a bin after a sweep has examined it (R44). -/
def State.examined (s : State) (b : Nat) : BinRecord :=
  match s.foundAt b with
  | some x => { s.record b with assigned := some { x.2 with state := .silent, samples := [] } }
  | none => s.record b

/-- Is a bin found silent while ACTIVE, so that its due entry is flagged (R44)? -/
def State.flagsDue (s : State) (b : Nat) : Bool :=
  (s.foundAt b).any fun x => x.2.state == .active

/-- The SILENT event of a bin (R44). -/
def silentEvent (x : Nat × Assigned) : Event :=
  { cls := .silent, row := x.2.district, bin := some x.1, origin := none
    value := ((x.2.f16.elim 0 fun v => (v + 8) / 16 : Nat) : Int) }

theorem fillOrZero_eq (a : Assigned) : a.fillOrZero = a.f16.elim 0 fun v => (v + 8) / 16 := by
  unfold Assigned.fillOrZero
  cases a.f16 <;> rfl

/-! ### Bins swept one after another -/

/-- From `s` to `t` a sweep has examined the bins of a list. -/
structure State.Swept (s t : State) (bins : List Nat) : Prop where
  frame : t = { s with bins := { s.bins with records := t.bins.records }
                       due := t.due
                       watch := t.watch }
  record : ∀ i, t.record i = if i ∈ bins then s.examined i else s.record i
  due : t.due = s.due.map fun x =>
    if x.bin ∈ bins ∧ s.flagsDue x.bin = true then { x with silent := true } else x
  watch : t.watch = (bins.filterMap s.foundAt).foldl
    (fun w x => w.takeGroup s.time [silentEvent x]) s.watch

/-- One bin examined (R44). -/
theorem State.Swept.sweepBin (hr : s.bins.records.wf = true) (b : Nat) :
    s.Swept (s.sweepBin b) [b] := by
  cases hf : s.foundAt b with
  | none =>
    have same : s.sweepBin b = s := by
      unfold State.foundAt at hf
      unfold State.sweepBin
      cases ha : s.assigned b with
      | none => rfl
      | some a =>
        rw [ha] at hf
        dsimp only at hf ⊢
        split at hf
        · cases hf
        · next hn => exact if_neg hn
    rw [same]
    refine ⟨rfl, fun i => ?_, ?_, by simp [hf]⟩
    · by_cases hi : i = b <;> simp [hi, State.examined, hf]
    · refine ((List.map_congr_left fun x _ => ?_).trans (List.map_id _)).symm
      refine if_neg fun h => ?_
      rw [List.mem_singleton.1 h.1, State.flagsDue, hf] at h
      cases h.2
  | some x =>
    obtain ⟨c, a⟩ := x
    obtain ⟨rfl, ha, hu⟩ := State.foundAt_eq_some.1 hf
    have found : s.sweepBin b = s.makeSilent b a := by
      rw [State.sweepBin, ha]
      exact if_pos (State.foundSilent_iff.2 hu)
    rw [found]
    have record := fun i => State.record_setAssigned hr b i
      (some { a with state := .silent, samples := [] })
    have active : s.flagsDue b = (a.state == .active) := by rw [State.flagsDue, hf]; rfl
    refine ⟨?_, fun i => ?_, ?_, ?_⟩
    · unfold State.makeSilent
      dsimp only
      split <;> rfl
    · have own : (s.makeSilent b a).record i = (s.setAssigned b
          (some { a with state := .silent, samples := [] })).record i := by
        unfold State.makeSilent
        dsimp only
        split <;> rfl
      rw [own, record, State.examined]
      by_cases hi : i = b <;> simp [hi, hf]
    · unfold State.makeSilent
      dsimp only
      split
      · next hact =>
        refine List.map_congr_left fun x _ => ?_
        by_cases hx : x.bin = b <;> simp [hx, active, hact]
      · next hact =>
        refine ((List.map_congr_left fun x _ => ?_).trans (List.map_id _)).symm
        by_cases hx : x.bin = b <;> simp [hx, active, hact]
    · unfold State.makeSilent
      dsimp only
      rw [List.filterMap_cons_some hf, fillOrZero_eq]
      split <;> rfl

/-- Bins examined after another one: what is found of a bin does not depend on the others. -/
theorem State.Swept.cons {rest : List Nat} (h : s.Swept u [b]) (hb : b ∉ rest)
    (h' : u.Swept t rest) : s.Swept t (b :: rest) := by
  have time : u.time = s.time := by rw [h.frame]
  have record : ∀ i, i ≠ b → u.record i = s.record i := fun i hi =>
    (h.record i).trans (if_neg fun hm => hi (List.mem_singleton.1 hm))
  have found : ∀ i ∈ rest, u.foundAt i = s.foundAt i := fun i hi => by
    have ne : i ≠ b := fun he => hb (he ▸ hi)
    have same : ∀ a, u.foundSilent i a = s.foundSilent i a := fun a => by rw [h.frame]; rfl
    simp only [State.foundAt, State.assigned, record i ne, same]
  have examined : ∀ i ∈ rest, u.examined i = s.examined i := fun i hi => by
    rw [State.examined, State.examined, found i hi, record i fun he => hb (he ▸ hi)]
  have flags : ∀ i ∈ rest, u.flagsDue i = s.flagsDue i := fun i hi => by
    rw [State.flagsDue, State.flagsDue, found i hi]
  refine ⟨by rw [h'.frame, h.frame], fun i => ?_, ?_, ?_⟩
  · rw [h'.record]
    by_cases hm : i ∈ rest
    · rw [if_pos hm, if_pos (List.mem_cons_of_mem _ hm), examined i hm]
    · rw [if_neg hm, h.record]
      simp [hm]
  · rw [h'.due, h.due, List.map_map]
    refine List.map_congr_left fun x _ => ?_
    by_cases hx : x.bin = b
    · have hn : x.bin ∉ rest := hx ▸ hb
      by_cases hf : s.flagsDue b = true <;> simp [hx, hf, hb]
    · by_cases hm : x.bin ∈ rest <;> simp [hx, hm, flags]
  · rw [h'.watch, h.watch, time, List.filterMap_congr found,
      show b :: rest = [b] ++ rest from rfl, List.filterMap_append, List.foldl_append]

theorem State.swept_foldl (hr : s.bins.records.wf = true) {bins : List Nat} (hn : bins.Nodup) :
    s.Swept (bins.foldl State.sweepBin s) bins := by
  induction bins generalizing s with
  | nil => exact ⟨rfl, fun _ => rfl, by simp, rfl⟩
  | cons b rest ih =>
    obtain ⟨hb, hrest⟩ := List.nodup_cons.1 hn
    exact (State.Swept.sweepBin hr b).cons hb
      (ih ((State.KeepsAssignments.sweepBin b).records hr) hrest)

/-! ### The whole sweep -/

theorem rising_pairwise {α : Type} {l : List (Nat × α)} (h : rising l = true) :
    (l.map (·.1)).Pairwise (· < ·) := by
  induction l with
  | nil => exact List.Pairwise.nil
  | cons x rest ih =>
    obtain ⟨hx, hrest⟩ := rising_cons.1 h
    exact List.pairwise_cons.2 ⟨List.forall_mem_map.2 hx, ih hrest⟩

theorem State.mem_sweptBins (ha : s.assigned b = some a) : b ∈ s.sweptBins :=
  List.mem_map.2 ⟨_, State.mem_of_assigned ha, rfl⟩

/-- The bins found by a sweep, in ascending order. -/
theorem State.mem_found :
    (b, a) ∈ s.sweptBins.filterMap s.foundAt ↔ s.assigned b = some a ∧ UnheardTooLong s b a := by
  rw [List.mem_filterMap]
  constructor
  · rintro ⟨i, -, hi⟩
    exact (State.foundAt_eq_some.1 hi).2
  · intro h
    exact ⟨b, State.mem_sweptBins h.1, State.foundAt_eq_some.2 ⟨rfl, h⟩⟩

theorem State.found_pairwise (hr : s.bins.records.wf = true) :
    (s.sweptBins.filterMap s.foundAt).Pairwise fun x y => x.1 < y.1 := by
  refine (rising_pairwise hr).filterMap _ fun i j hij x hx y hy => ?_
  obtain ⟨hi, -⟩ := State.foundAt_eq_some.1 hx
  obtain ⟨hj, -⟩ := State.foundAt_eq_some.1 hy
  rwa [← hi, ← hj]

theorem State.examined_of_unheard (ha : s.assigned b = some a) (hu : UnheardTooLong s b a) :
    s.examined b = { s.record b with assigned := some { a with state := .silent, samples := [] } } := by
  rw [State.examined, State.foundAt_eq_some.2 ⟨rfl, ha, hu⟩]

theorem State.foundAt_of_heard (h : ∀ a, s.assigned b = some a → ¬ UnheardTooLong s b a) :
    s.foundAt b = none :=
  Option.eq_none_iff_forall_ne_some.2 fun ⟨i, a⟩ hx => by
    obtain ⟨rfl, ha, hu⟩ := State.foundAt_eq_some.1 hx
    exact h a ha hu

theorem State.examined_of_heard (h : ∀ a, s.assigned b = some a → ¬ UnheardTooLong s b a) :
    s.examined b = s.record b := by
  rw [State.examined, State.foundAt_of_heard h]

theorem State.flagsDue_iff : s.flagsDue b = true ↔
    ∃ a, s.assigned b = some a ∧ a.state = .active ∧ UnheardTooLong s b a := by
  rw [State.flagsDue, Option.any_eq_true]
  constructor
  · rintro ⟨⟨i, a⟩, hx, hact⟩
    obtain ⟨rfl, ha, hu⟩ := State.foundAt_eq_some.1 hx
    exact ⟨a, ha, beq_iff_eq.1 hact, hu⟩
  · rintro ⟨a, ha, hact, hu⟩
    exact ⟨(b, a), State.foundAt_eq_some.2 ⟨rfl, ha, hu⟩, beq_iff_eq.2 hact⟩

theorem State.swept_sweep (hr : s.bins.records.wf = true) : s.Swept s.sweep s.sweptBins :=
  State.swept_foldl hr ((rising_pairwise hr).imp Nat.ne_of_lt)

/-- A bin that the table does not list has no record to examine. -/
theorem State.Swept.record_sweep (h : s.Swept t s.sweptBins) (b : Nat) :
    t.record b = s.examined b := by
  rw [h.record]
  split
  · rfl
  · next hb =>
    exact (State.examined_of_heard fun a ha => absurd (State.mem_sweptBins ha) hb).symm

theorem State.Swept.due_sweep (h : s.Swept t s.sweptBins) {i : Nat} {x : DueEntry}
    (hx : s.due[i]? = some x) :
    t.due[i]? = some (if s.flagsDue x.bin = true then { x with silent := true } else x) := by
  rw [h.due, List.getElem?_map, hx]
  refine congrArg some (if_congr (and_iff_right_of_imp fun hf => ?_) rfl rfl)
  obtain ⟨a, ha, -⟩ := State.flagsDue_iff.1 hf
  exact State.mem_sweptBins ha

/-- Settles O24: the sweep examines the bins one after another, and what it makes of one does not
depend on the others. -/
theorem sweepMakesUnheardBinsSilent : Obligations.SweepMakesUnheardBinsSilent := by
  intro s due hcan hr hd hle
  have hw := Table.wf_of_canonical hcan.records
  have swept := State.swept_sweep hw
  have expires : exec .silenceSweep s = .next { s.sweep with
      bins := { s.sweep.bins with
        sweepDue := some (nextExpiry due s.inForce.settings.sweepInterval) } } := by
    show execSilenceSweep s = _
    unfold execSilenceSweep
    rw [State.whenRunning_of_running hr, hd]
    exact congrArg Host.Outcome.next (if_pos hle)
  refine ⟨_, expires, ?_, ⟨_, State.found_pairwise hw, fun b a => State.mem_found, swept.watch⟩,
    fun b ha => ?_, fun b a ha => ⟨fun hu => ?_, fun hu => ?_⟩, ?_, fun i x hx => ⟨?_, ?_⟩⟩
  · exact congrArg (fun t => { t with bins := { t.bins with
      sweepDue := some (nextExpiry due s.inForce.settings.sweepInterval) } }) swept.frame
  · exact (swept.record_sweep b).trans (State.examined_of_heard fun a ha' => by simp [ha] at ha')
  · exact (swept.record_sweep b).trans (State.examined_of_unheard ha hu)
  · exact (swept.record_sweep b).trans (State.examined_of_heard fun a' ha' => by
      cases ha.symm.trans ha'
      exact hu)
  · exact (congrArg List.length swept.due).trans (List.length_map _)
  · intro a ha hact hu
    exact (swept.due_sweep hx).trans (congrArg some
      (if_pos (State.flagsDue_iff.2 ⟨a, ha, hact, hu⟩)))
  · intro heard
    refine (swept.due_sweep hx).trans (congrArg some (if_neg fun hf => ?_))
    obtain ⟨a, ha, hact, hu⟩ := State.flagsDue_iff.1 hf
    exact heard a ha hact hu

end Sys2Proof.Machine
end

section
/-! PROOFS. LOAD PROFILE (R59, R63 to R66): the profile as it is held, the bins that name one, and
what the reset of some bins leaves of the records and the collection-due queue. -/

namespace Sys2Proof.Machine

open Sys2Proof.Statements

variable {s t u : State} {r : Request} {p : Profile}

/-! ### The profile held (R59, R63, R64) -/

/-- Holding a profile writes its weight alone (R59). -/
theorem Profile.held_frame (p : Profile) : p.held = { p with weight := p.held.weight } := by
  unfold Profile.held
  split <;> rfl

theorem Profile.weight_held (p : Profile) :
    p.held.weight = if p.kind = .glass then min p.weight 4 else p.weight := by
  unfold Profile.held
  split
  · next hc =>
    obtain ⟨hk, hw⟩ := weightClamps_iff.1 hc
    rw [if_pos hk, Nat.min_eq_right hw.le]
  · next hc =>
    split
    · next hk =>
      exact (Nat.min_eq_left (Nat.le_of_not_lt fun hw => hc (weightClamps_iff.2 ⟨hk, hw⟩))).symm
    · rfl

theorem weightClamps_eq (p : Profile) :
    weightClamps p = decide (p.kind = .glass ∧ 4 < p.weight) :=
  Bool.eq_iff_iff.2 (weightClamps_iff.trans decide_eq_true_iff.symm)

theorem geometryChanges_eq (old : Option Profile) :
    geometryChanges old p = old.any fun q => !sameGeometry q p := by
  cases old <;> rfl

/-- A LOAD PROFILE that passes its checks describes a profile (R63). -/
theorem profile_of_profileFits (h : profileFits r = true) : ∃ p, r.profile = some p := by
  unfold profileFits at h
  cases hp : r.profile with
  | none => simp [hp] at h
  | some p => exact ⟨p, rfl⟩

/-! ### The bins that name a profile (R65) -/

theorem State.binsNaming_eq (n : Nat) : s.binsNaming n =
    (s.bins.records.entries.filter fun x =>
      x.2.assigned.any fun a => a.profile == n).map (·.1) := by
  unfold State.binsNaming
  refine congrArg (List.map _) (List.filter_congr fun x _ => ?_)
  cases x.2.assigned <;> rfl

theorem State.mem_binsNaming (h : s.bins.records.wf = true) {b n : Nat} :
    b ∈ s.binsNaming n ↔ ∃ a, s.assigned b = some a ∧ a.profile = n := by
  simp only [State.binsNaming_eq, List.mem_map, List.mem_filter, Option.any_eq_true, beq_iff_eq]
  constructor
  · rintro ⟨x, ⟨hx, a, ha, hn⟩, rfl⟩
    exact ⟨a, by rw [State.assigned, State.record_of_mem h hx, ha], hn⟩
  · rintro ⟨a, ha, hn⟩
    exact ⟨_, ⟨State.mem_of_assigned ha, a, ha, hn⟩, rfl⟩

theorem State.binsNaming_nodup (h : s.bins.records.wf = true) (n : Nat) :
    (s.binsNaming n).Nodup :=
  ((rising_pairwise h).imp Nat.ne_of_lt).sublist (List.filter_sublist.map _)

theorem State.length_binsNaming (n : Nat) :
    (s.binsNaming n).length = s.countBins fun a => a.profile == n :=
  List.length_map ..

/-- The removals of a reload, counted in the listed records (R66). -/
theorem State.length_due_binsNaming (n : Nat) :
    ((s.binsNaming n).filter fun b => (s.dueEntry b).isSome).length =
      (s.bins.records.entries.filter fun x => x.2.assigned.any (fun a => a.profile == n) &&
        s.due.any fun e => e.bin == x.1).length := by
  rw [State.binsNaming_eq, List.filter_map, List.length_map, List.filter_filter]
  refine congrArg List.length (List.filter_congr fun x _ => ?_)
  rw [Function.comp_apply, State.isSome_dueEntry, Bool.and_comm]

/-! ### Bins reset by a new geometry (R65) -/

/-- What a reset keeps of a record and what it clears (R48, R65). -/
theorem Assigned.reassigned_frame (a : Assigned) (c : Option Int) (now : Nat) :
    a.reassigned c now = { a.clearFill with
      samples := []
      lastHeard := now
      state := (a.reassigned c now).state
      offset := (a.reassigned c now).offset } :=
  Assigned.byCalibration_frame ..

theorem Assigned.fillCleared_reassigned (a : Assigned) (c : Option Int) (now : Nat) :
    FillCleared (a.reassigned c now) := by
  rw [Assigned.reassigned_frame]
  exact ⟨rfl, rfl, rfl, rfl, rfl, rfl, rfl, rfl⟩

theorem Assigned.sameSensor_reassigned (a : Assigned) (c : Option Int) (now : Nat) :
    SameSensor (a.reassigned c now) a := by
  rw [Assigned.reassigned_frame]
  exact ⟨rfl, rfl, rfl, rfl⟩

/-- The record of a bin that a new geometry has reset: as LOAD BIN resets it, in its place (R65). -/
def State.resetRecord (s : State) (b : Nat) (a : Assigned) : BinRecord :=
  { s.record b with
    unqueued := false
    assigned := some (a.reassigned (s.learned b) s.time.seconds) }

/-- From `s` to `t` a new geometry has reset the bins of a list. -/
structure State.BinsReset (s t : State) (bins : List Nat) : Prop where
  frame : t = { s with bins := { s.bins with records := t.bins.records }, due := t.due }
  due : t.due = s.due.filter fun e => decide (e.bin ∉ bins)
  reset : ∀ b ∈ bins, ∀ a, s.assigned b = some a → t.record b = s.resetRecord b a
  other : ∀ b ∉ bins, t.record b = s.record b

theorem State.resetBin_of_assigned {b : Nat} {a : Assigned} (ha : s.assigned b = some a) :
    s.resetBin b =
      (s.setAssigned b (some (a.reassigned (s.learned b) s.time.seconds))).handRemoval b := by
  rw [State.resetBin, ha]

theorem State.record_resetBin (h : s.bins.records.wf = true) {b : Nat} {a : Assigned}
    (ha : s.assigned b = some a) (i : Nat) :
    (s.resetBin b).record i = if i = b then s.resetRecord b a else s.record i := by
  rw [State.resetBin_of_assigned ha, State.record_handRemoval (Table.wf_set h ..),
    State.record_setAssigned h, State.record_setAssigned h, if_pos rfl]
  split <;> rfl

/-- One bin reset (R65). -/
theorem State.BinsReset.resetBin (h : s.bins.records.wf = true) {b : Nat} {a : Assigned}
    (ha : s.assigned b = some a) : s.BinsReset (s.resetBin b) [b] where
  frame := by
    rw [State.resetBin_of_assigned ha]
    rfl
  due := by
    rw [State.resetBin_of_assigned ha]
    exact List.filter_congr fun e _ => by rw [Bool.eq_iff_iff]; simp
  reset i hi a' ha' := by
    obtain rfl := List.mem_singleton.1 hi
    cases ha.symm.trans ha'
    exact (State.record_resetBin h ha i).trans (if_pos rfl)
  other i hi := (State.record_resetBin h ha i).trans (if_neg (mt List.mem_singleton.2 hi))

/-- Bins reset after another one: what the reset makes of a bin does not depend on the others. -/
theorem State.BinsReset.cons {b : Nat} {rest : List Nat} (h : s.BinsReset u [b]) (hb : b ∉ rest)
    (h' : u.BinsReset t rest) : s.BinsReset t (b :: rest) where
  frame := by rw [h'.frame, h.frame]
  due := by
    rw [h'.due, h.due, List.filter_filter]
    refine List.filter_congr fun e _ => ?_
    rw [Bool.eq_iff_iff]
    simp [and_comm]
  reset i hi a ha := by
    by_cases he : i = b
    · subst he
      exact (h'.other i hb).trans (h.reset i (List.mem_singleton_self i) a ha)
    · have same : u.record i = s.record i := h.other i (mt List.mem_singleton.1 he)
      have kept : u.resetRecord i a = s.resetRecord i a := by
        rw [State.resetRecord, State.resetRecord, same, h.frame]
        rfl
      exact kept ▸ h'.reset i ((List.mem_cons.1 hi).resolve_left he) a
        ((congrArg BinRecord.assigned same).trans ha)
  other i hi := by
    obtain ⟨he, hr⟩ := not_or.1 (mt List.mem_cons.2 hi)
    exact (h'.other i hr).trans (h.other i (mt List.mem_singleton.1 he))

/-- Resets made one after another, of assigned bins. -/
theorem State.binsReset_foldl (h : s.bins.records.wf = true) {bins : List Nat} (hn : bins.Nodup)
    (ha : ∀ b ∈ bins, ∃ a, s.assigned b = some a) :
    s.BinsReset (bins.foldl State.resetBin s) bins := by
  induction bins generalizing s with
  | nil => exact ⟨rfl, by simp, fun b hb => absurd hb List.not_mem_nil, fun _ _ => rfl⟩
  | cons b rest ih =>
    obtain ⟨hb, hrest⟩ := List.nodup_cons.1 hn
    obtain ⟨a, hab⟩ := ha b List.mem_cons_self
    have first := State.BinsReset.resetBin h hab
    refine first.cons hb (ih ((State.KeepsAssignments.resetBin b).records h) hrest fun i hi => ?_)
    have same : (s.resetBin b).record i = s.record i :=
      first.other i fun hm => hb (List.mem_singleton.1 hm ▸ hi)
    rw [State.assigned, same]
    exact ha i (List.mem_cons_of_mem b hi)

/-- A reset leaves the backlink of a bin (R65). -/
theorem State.BinsReset.mapped {bins : List Nat} (h : s.BinsReset t bins)
    (ha : ∀ b ∈ bins, ∃ a, s.assigned b = some a) (i : Nat) :
    (s.record i).mapped = (t.record i).mapped := by
  by_cases hi : i ∈ bins
  · obtain ⟨a, hia⟩ := ha i hi
    rw [h.reset i hi a hia]
    rfl
  · rw [h.other i hi]

/-! ### LOAD PROFILE (R64 to R66) -/

theorem State.get_setProfile_held (h : s.profiles.wf = true) (n i : Nat) :
    (s.setProfile n (some p.held)).profiles.get i =
      if i = n then some { p with weight := p.held.weight } else s.profiles.get i := by
  rw [← p.held_frame]
  exact Table.get_set h ..

/-- LOAD PROFILE of an entry not loaded before, or with its geometry as it was, touches no bin
(R64). -/
theorem profileLoaded_of_same (hw : s.profiles.wf = true) (hp : r.profile = some p)
    (hg : ((s.profiles.get (r.arg8 0)).any fun old => !sameGeometry old p) = false) :
    ProfileLoaded s (applyLoadProfile r s).1 (applyLoadProfile r s).2 (r.arg8 0) p := by
  have hl : applyLoadProfile r s = (s.setProfile (r.arg8 0) (some p.held), .profileLoaded
      (s.profiles.get (r.arg8 0)).isSome false (weightClamps p) p.held.weight 0 0) := by
    rw [applyLoadProfile, hp]
    dsimp only
    rw [geometryChanges_eq, hg]
    rfl
  rw [hl]
  unfold ProfileLoaded
  rw [hg]
  exact ⟨p.held.weight, 0, 0, by rw [weightClamps_eq], rfl, rfl, p.weight_held, rfl, rfl, rfl,
    State.get_setProfile_held hw _, fun _ => rfl, fun _ => ⟨rfl, rfl⟩,
    fun hc => absurd hc Bool.false_ne_true, fun _ _ hc => absurd hc Bool.false_ne_true⟩

/-- LOAD PROFILE of a loaded entry with another geometry resets every bin that names it (R65). -/
theorem profileLoaded_of_changed (hr : s.bins.records.wf = true) (hw : s.profiles.wf = true)
    (hp : r.profile = some p)
    (hg : ((s.profiles.get (r.arg8 0)).any fun old => !sameGeometry old p) = true) :
    ProfileLoaded s (applyLoadProfile r s).1 (applyLoadProfile r s).2 (r.arg8 0) p := by
  have hl : applyLoadProfile r s = ((s.binsNaming (r.arg8 0)).foldl State.resetBin
        (s.setProfile (r.arg8 0) (some p.held)), .profileLoaded
      (s.profiles.get (r.arg8 0)).isSome true (weightClamps p) p.held.weight
      (s.binsNaming (r.arg8 0)).length
      ((s.binsNaming (r.arg8 0)).filter fun b => (s.dueEntry b).isSome).length) := by
    rw [applyLoadProfile, hp]
    dsimp only
    rw [geometryChanges_eq, hg]
    rfl
  have mem := fun b => State.mem_binsNaming hr (b := b) (n := r.arg8 0)
  have assigned : ∀ b ∈ s.binsNaming (r.arg8 0), ∃ a, s.assigned b = some a := fun b hb =>
    ((mem b).1 hb).imp fun _ h => h.1
  have h := State.binsReset_foldl (s := s.setProfile (r.arg8 0) (some p.held)) hr
    (State.binsNaming_nodup hr _) assigned
  rw [hl]
  unfold ProfileLoaded
  rw [hg]
  generalize (s.binsNaming (r.arg8 0)).foldl State.resetBin
    (s.setProfile (r.arg8 0) (some p.held)) = t at h
  have due : t.due = s.due.filter fun e =>
      !((s.assigned e.bin).any fun a => a.profile == r.arg8 0) := by
    refine h.due.trans (List.filter_congr fun e _ => (decide_not ..).trans (congrArg not ?_))
    rw [Bool.eq_iff_iff]
    simp [mem, Option.any_eq_true]
  have other : ∀ i, (∀ a, s.assigned i = some a → a.profile ≠ r.arg8 0) →
      t.record i = s.record i := fun i hi => h.other i fun hm =>
    let ⟨a, ha, hn⟩ := (mem i).1 hm
    hi a ha hn
  refine ⟨p.held.weight, _, _, by rw [weightClamps_eq], State.length_binsNaming _,
    State.length_due_binsNaming _, p.weight_held, by rw [h.frame]; rfl, by rw [h.frame]; rfl,
    by rw [h.frame]; rfl, fun i => ?_, h.mapped assigned,
    fun hc => absurd hc.symm Bool.false_ne_true, fun _ => ⟨due, other⟩, fun i a _ ha hn => ?_⟩
  · rw [h.frame]
    exact State.get_setProfile_held hw ..
  · have own : t.record i = s.resetRecord i a := h.reset i ((mem i).2 ⟨a, ha, hn⟩) a ha
    have again := a.reassigned_frame (s.learned i) s.time.seconds
    have placed := a.placing_reassigned (s.learned i) s.time.seconds
    simp only [Assigned.placing, Prod.mk.injEq] at placed
    exact ⟨congrArg BinRecord.unqueued own, _, congrArg BinRecord.assigned own,
      a.fillCleared_reassigned .., byCalibration_byCalibration .., congrArg Assigned.samples again,
      a.sameSensor_reassigned .., congrArg Assigned.lastHeard again, placed⟩

/-- LOAD PROFILE resets the bins that name it only on a new geometry (R64, R65). -/
theorem applyLoadProfile_profileLoaded (hr : s.bins.records.wf = true) (hw : s.profiles.wf = true)
    (hp : r.profile = some p) :
    ProfileLoaded s (applyLoadProfile r s).1 (applyLoadProfile r s).2 (r.arg8 0) p := by
  cases hg : (s.profiles.get (r.arg8 0)).any fun old => !sameGeometry old p with
  | false => exact profileLoaded_of_same hw hp hg
  | true => exact profileLoaded_of_changed hr hw hp hg

theorem State.SameTables.profileLoaded {x : Contents} {n : Nat} (h : u.SameTables t)
    (hl : ProfileLoaded s u x n p) : ProfileLoaded s t x n p := by
  unfold ProfileLoaded State.assigned State.record at *
  rwa [h.translation, h.bins, h.profiles, h.due]

/-- Settles O36: with nothing in flight the change is made in its own command, and it resets the
bins that name the profile where a loaded entry changes its geometry. -/
theorem loadProfileResetsItsBinsOnNewGeometry :
    Obligations.LoadProfileResetsItsBinsOnNewGeometry := by
  intro s r hcan hd hpass
  have ho := hpass.2.1
  have hg : s.gateSet r = List.range 16 := by rw [State.gateSet, ho]; rfl
  have hf := changeFits_of_headCheck (by decide) ho hpass.2.2
  rw [State.changeFits, ho] at hf
  obtain ⟨p, hp⟩ := profile_of_profileFits hf
  obtain ⟨t, he, hs, ht⟩ := exec_change_settled (by decide) hcan (hg ▸ hd) hpass
  rw [headCommand, ho] at he
  rw [applyChange, ho] at hs ht
  rw [hg] at hs
  exact ⟨t, _, p, hp, he, hs, ht.profileLoaded (applyLoadProfile_profileLoaded
    (Table.wf_of_canonical hcan.records) hcan.profiles hp)⟩

end Sys2Proof.Machine
end

section
/-! PROOFS. Every step keeps the in-flight counts equal to the busy slots, with no bin in flight
twice (R70 to R72, R100). -/

namespace Sys2Proof.Machine

variable {s t : State}

/-! ### The busy slots and the in-flight counts -/

/-- What the in-flight invariant reads of the state: the busy slots and the in-flight counts. -/
def State.flights (s : State) : List Estimate × Table Nat := (s.slots, s.gates.inFlight)

theorem flights_of_ledger (h : t.ledger = s.ledger) : t.flights = s.flights :=
  Prod.ext (congrArg Ledger.slots h) (congrArg Ledger.inFlight h)

theorem State.TablesStep.flights (h : s.TablesStep t) : t.flights = s.flights := by
  rw [h.frame]
  rfl

theorem State.flights_setGates (ds : List Nat) : (s.setGates ds).flights = s.flights :=
  Prod.ext rfl (Gates.setStates_inFlight ..)

theorem State.flights_reopen (c : PendingChange) : (s.reopen c).flights = s.flights :=
  Prod.ext rfl (Gates.setStates_inFlight ..)

theorem State.flights_answer (r : Request) (x : Result) (l : List Contents) :
    (s.answer r x l).flights = s.flights := rfl

theorem State.flights_setWatch (w : Watch) : State.flights { s with watch := w } = s.flights := rfl

theorem State.flights_setAuthority (c : Nat) (a : Authority) :
    (s.setAuthority c a).flights = s.flights := rfl

theorem State.flights_applyPending {apply : Request → State → Applied} {r : Request}
    (ha : (apply r s).1.flights = s.flights) (c : PendingChange) :
    (s.applyPending apply c r).flights = s.flights :=
  ((flights_of_ledger State.ledger_givePlaces).trans (State.flights_answer ..)).trans
    ((State.flights_reopen c).trans ha)

theorem State.flights_tallyCompletion (row : Nat) (l : List FlagDetail) :
    (s.tallyCompletion row l).flights = s.flights := by
  rw [State.tallyCompletion_frame]
  rfl

theorem State.flights_sweepBin (b : Nat) : (s.sweepBin b).flights = s.flights := by
  unfold State.sweepBin State.makeSilent
  split
  · split
    · dsimp only
      split <;> rfl
    · rfl
  · rfl

theorem State.flights_sweep : s.sweep.flights = s.flights := by
  unfold State.sweep
  generalize s.sweptBins = bins
  induction bins generalizing s with
  | nil => rfl
  | cons b rest ih => exact ih.trans (State.flights_sweepBin b)

theorem State.vacate_flights {u : State} (h : u.flights = s.flights) (e : Estimate) :
    (u.vacate e).flights = (s.vacate e).flights := by
  obtain ⟨hs, hc⟩ := Prod.mk.inj h
  simp only [State.flights, State.vacate, Gates.setCount, Gates.count, hs, hc]

/-! ### What a command can do to them -/

/-- Everything that a command can do to the estimates in flight: nothing; an estimate starts for a
bin that is not in flight (R71); one that is in flight ends (R72); or every slot is freed by a start
(R74, R111). -/
inductive State.FlightStep (s t : State) : Prop
  | same (h : t.flights = s.flights)
  | started (e : Estimate) (hn : ∀ x ∈ s.slots, x.frame.bin ≠ e.frame.bin)
      (h : t.flights = (s.slots ++ [e],
        (s.gates.setCount e.district (s.gates.count e.district + 1)).inFlight))
  | ended (e : Estimate) (he : e ∈ s.slots) (h : t.flights = (s.vacate e).flights)
  | cleared (h : t.flights = ([], .empty))

namespace State.FlightStep

theorem of_ledger (h : t.ledger = s.ledger) : s.FlightStep t := .same (flights_of_ledger h)

theorem whenRunning {f : State → State} (h : s.FlightStep (f s)) :
    s.FlightStep (s.whenRunning f) := by
  unfold State.whenRunning
  split
  · exact h
  · exact .same rfl

theorem serve {mine : Request → Bool} {check : State → Request → Option Result}
    {carry : Request → State → State} (hk : ∀ r, s.FlightStep (carry r s)) :
    s.FlightStep (s.serve mine check carry) := by
  rcases State.serve_cases mine check carry s with hs | ⟨r, -, -, ⟨x, -, hs⟩ | ⟨-, hs⟩⟩ <;> rw [hs]
  · exact .same rfl
  · exact .same rfl
  · exact hk r

theorem startFrame {f : Frame} (hf : s.eligible f = true) :
    s.FlightStep (s.takeAdmitted.startFrame f) := by
  unfold State.startFrame
  split
  · exact .same rfl
  · next a ha =>
    split
    · next gap _ =>
      exact .started { frame := f, district := a.district, gap := gap }
        (State.eligible_iff.1 hf) rfl
    · exact .same rfl
    · exact .same rfl

theorem complete {e : Estimate} (he : e ∈ s.slots) : s.FlightStep (s.complete e) := by
  unfold State.complete
  split
  · rw [State.applyCompletion_eq]
    exact .ended e he (State.vacate_flights
      ((State.flights_tallyCompletion ..).trans (State.TablesStep.handedOver e _).flights) e)
  · exact .ended e he rfl

theorem serve_report {mine : Request → Bool} {check : State → Request → Option Result}
    {of : Request → State → Contents} : s.FlightStep (s.serve mine check (State.report of)) :=
  serve fun _ => .same (State.flights_answer ..)

/-- A change reaches no estimate in flight, whether it is made at once or waits (R103). -/
theorem carryChange {apply : Request → State → Applied}
    (ha : ∀ (r : Request) (u : State), u.TablesStep (apply r u).1) (ds : List Nat) (r : Request) :
    s.FlightStep (s.carryChange apply ds r) := by
  refine .same ?_
  unfold State.carryChange
  split
  · exact (ha r s).flights
  · split
    · exact (State.flights_applyPending (ha r _).flights _).trans (State.flights_setGates ds)
    · exact State.flights_setGates ds

end State.FlightStep

theorem execEstimateStart_flightStep : Keeps s.FlightStep (execEstimateStart s) := by
  refine keeps_next (.whenRunning ?_)
  split
  · next f hf =>
    unfold State.nextFrame at hf
    split at hf
    · exact .startFrame (List.find?_some hf)
    · cases hf
  · exact .same rfl

theorem execEstimateCompletion_flightStep (bin : Nat) :
    Keeps s.FlightStep (execEstimateCompletion bin s) := by
  refine keeps_next (.whenRunning ?_)
  split
  · next e he => exact .complete (List.mem_of_find?_eq_some he)
  · exact .same rfl

theorem execSilenceSweep_flightStep : Keeps s.FlightStep (execSilenceSweep s) := by
  refine keeps_next (.whenRunning (.same ?_))
  dsimp only
  split
  · split
    · exact State.flights_sweep
    · rfl
  · rfl

theorem execChangeApplication_flightStep : Keeps s.FlightStep (execChangeApplication s) := by
  refine keeps_next (.whenRunning (.same ?_))
  split
  · split
    · exact State.flights_applyPending (applyChange_tablesStep _ s).flights _
    · rfl
  · rfl

theorem execChangeTimeout_flightStep : Keeps s.FlightStep (execChangeTimeout s) := by
  refine keeps_next (.whenRunning (.same ?_))
  split
  · split
    · exact ((flights_of_ledger State.ledger_givePlaces).trans (State.flights_answer ..)).trans
        (State.flights_reopen _)
    · rfl
  · rfl

theorem execManagementFrame_flightStep (body : List Byte) :
    Keeps s.FlightStep (execManagementFrame body s) := by
  refine keeps_next (.whenRunning (.same ?_))
  split
  · unfold State.arrive
    split
    · rfl
    · split <;> rfl
  · rfl

theorem execLoadWatchMask_flightStep : Keeps s.FlightStep (execLoadWatchMask s) := by
  refine keeps_next (.serve fun r => .same ?_)
  split <;> rfl

theorem execReadCountersReset_flightStep : Keeps s.FlightStep (execReadCountersReset s) :=
  keeps_next (.serve fun _ =>
    .same ((State.flights_answer ..).trans (State.flights_setWatch _)))

theorem execResetCounters_flightStep : Keeps s.FlightStep (execResetCounters s) :=
  keeps_next (.serve fun _ =>
    .same ((State.flights_answer ..).trans (State.flights_setWatch _)))

theorem execTransmissionEnd_flightStep : Keeps s.FlightStep (execTransmissionEnd s) := by
  refine keeps_next (.whenRunning (.of_ledger ?_))
  dsimp only
  split
  · exact State.ledger_arbitrate
  · rfl

theorem execSummaryTimerExpiry_flightStep : Keeps s.FlightStep (execSummaryTimerExpiry s) := by
  refine keeps_next (.whenRunning (.same ?_))
  dsimp only
  split
  · split <;> rfl
  · rfl

theorem execPowerOn_flightStep : Keeps s.FlightStep (execPowerOn s) := by
  refine keeps_next ?_
  split
  · exact .same rfl
  · exact .cleared rfl

theorem execResetLineAssert_flightStep : Keeps s.FlightStep (execResetLineAssert s) := by
  refine keeps_next ?_
  split
  · exact .same rfl
  · split
    · exact .cleared rfl
    · exact .same rfl

/-- Every command, as `State.FlightStep` says. -/
theorem exec_flightStep (c : Instr) : Keeps s.FlightStep (exec c s) := by
  cases c with
  | intakeFrameTake c0 c1 c2 c3 =>
    refine keeps_next (.whenRunning (.of_ledger ?_))
    split
    · exact State.ledger_takeFrame ..
    · rfl
  | mergeEntryExpiry sensor count =>
    refine keeps_next (.whenRunning (.of_ledger ?_))
    split
    · split
      · exact State.ledger_expire _
      · rfl
    · rfl
  | admissionPlaceGrant => exact keeps_next (.whenRunning (.of_ledger State.ledger_givePlaces))
  | estimateStart => exact execEstimateStart_flightStep
  | estimateCompletion bin => exact execEstimateCompletion_flightStep bin
  | silenceSweep => exact execSilenceSweep_flightStep
  | managementFrame body => exact execManagementFrame_flightStep body
  | loadPrefix => exact keeps_next (.serve (.carryChange applyLoadPrefix_tablesStep _))
  | clearPrefix => exact keeps_next (.serve (.carryChange applyClearPrefix_tablesStep _))
  | loadDevice => exact keeps_next (.serve fun r => .carryChange applyLoadDevice_tablesStep _ r)
  | clearDevice => exact keeps_next (.serve fun r => .carryChange applyClearDevice_tablesStep _ r)
  | loadBin => exact keeps_next (.serve fun r => .carryChange applyLoadBin_tablesStep _ r)
  | retireBin => exact keeps_next (.serve fun r => .carryChange applyRetireBin_tablesStep _ r)
  | clearDistrict =>
    exact keeps_next (.serve fun r => .carryChange applyClearDistrict_tablesStep _ r)
  | loadProfile => exact keeps_next (.serve fun r => .carryChange applyLoadProfile_tablesStep _ r)
  | readPrefix | readDeviceByEntry | readDeviceBySensor | readBin | readProfile | readOutcomes
  | readCounters | readAuthority | readConfig => exact keeps_next .serve_report
  | requestDueList => exact keeps_next (.serve fun _ => .same (State.flights_answer ..))
  | readCountersReset => exact execReadCountersReset_flightStep
  | resetCounters => exact execResetCounters_flightStep
  | loadAuthority =>
    exact keeps_next (.serve fun _ =>
      .same ((State.flights_answer ..).trans (State.flights_setAuthority ..)))
  | storeConfig | unknownOp => exact keeps_next (.serve fun _ => .same rfl)
  | loadWatchMask => exact execLoadWatchMask_flightStep
  | restart => exact keeps_next (.serve fun _ => .cleared rfl)
  | changeApplication => exact execChangeApplication_flightStep
  | changeTimeout => exact execChangeTimeout_flightStep
  | startGrant | responseGrant | noticeGrant | summaryGrant | catchUpSummary =>
    exact keeps_next (.whenRunning (.of_ledger (State.ledger_grantIf _)))
  | transmissionEnd => exact execTransmissionEnd_flightStep
  | go | noticeHoldExpiry =>
    refine keeps_next (.whenRunning (.of_ledger ?_))
    split
    · exact State.ledger_arbitrate
    · rfl
  | summaryTimerExpiry => exact execSummaryTimerExpiry_flightStep
  | timeBeacon | pause => exact keeps_next (.whenRunning (.same rfl))
  | beaconLossExpiry | inboundFrameDiscarded =>
    refine keeps_next (.whenRunning (.same ?_))
    split <;> rfl
  | storeWriteBegin | storeWriteEnd | powerLoss =>
    refine keeps_next (.same ?_)
    split <;> rfl
  | startComplete =>
    refine keeps_next (.same ?_)
    split
    · split <;> rfl
    · rfl
  | powerOn => exact execPowerOn_flightStep
  | resetLineAssert => exact execResetLineAssert_flightStep
  | resetLineRelease => exact keeps_next (.same rfl)

/-! ### The invariant -/

theorem Gates.count_setCount {g : Gates} (h : g.inFlight.wf = true) (d n i : Nat) :
    (g.setCount d n).count i = if i = d then n else g.count i := Table.read_write h ..

/-- Of estimates with no bin twice, all but one are for other bins than that one. -/
theorem exists_flight_split {l : List Estimate} (hn : (l.map fun e => e.frame.bin).Nodup)
    {e : Estimate} (he : e ∈ l) : ∃ before after, l = before ++ e :: after ∧
      (∀ x ∈ before, x.frame.bin ≠ e.frame.bin) ∧ ∀ x ∈ after, x.frame.bin ≠ e.frame.bin := by
  obtain ⟨before, after, rfl⟩ := List.append_of_mem he
  rw [List.map_append, List.map_cons, List.nodup_append, List.nodup_cons] at hn
  obtain ⟨-, ⟨ha, -⟩, hb⟩ := hn
  exact ⟨before, after, rfl,
    fun x hx => hb _ (List.mem_map_of_mem hx) _ (List.mem_cons_self ..),
    fun x hx hbin => ha (List.mem_map.2 ⟨x, hx, hbin⟩)⟩

/-- What is left of some estimates, one a bin, when one of them ends: one fewer in its district. -/
theorem length_ended {l : List Estimate} (hn : (l.map fun e => e.frame.bin).Nodup) {e : Estimate}
    (he : e ∈ l) (d : Nat) :
    ((l.filter fun x => x.frame.bin != e.frame.bin).filter fun x => x.district == d).length =
      (l.filter fun x => x.district == d).length - if d = e.district then 1 else 0 := by
  obtain ⟨before, after, rfl, hb, ha⟩ := exists_flight_split hn he
  have left : (before ++ e :: after).filter (fun x => x.frame.bin != e.frame.bin) =
      before ++ after := by
    have hb' : before.filter (fun x => x.frame.bin != e.frame.bin) = before :=
      List.filter_eq_self.2 fun x hx => by simpa using hb x hx
    have ha' : after.filter (fun x => x.frame.bin != e.frame.bin) = after :=
      List.filter_eq_self.2 fun x hx => by simpa using ha x hx
    simp [hb', ha']
  rw [left]
  by_cases hd : d = e.district
  · subst hd
    simp
  · simp [hd, Ne.symm hd]

namespace State.InFlightSound

theorem of_flights (h : s.InFlightSound) (hf : t.flights = s.flights) : t.InFlightSound := by
  obtain ⟨hs, hc⟩ := Prod.mk.inj hf
  refine ⟨hs ▸ h.bins, fun d => ?_⟩
  rw [hs, ← h.counts d, Gates.count, Gates.count, hc]

theorem of_cleared (h : t.flights = ([], .empty)) : t.InFlightSound := by
  obtain ⟨hs, hc⟩ := Prod.mk.inj h
  refine ⟨hs ▸ List.nodup_nil, fun d => ?_⟩
  rw [hs, Gates.count, hc]
  rfl

theorem of_started (h : s.InFlightSound) (hw : s.gates.inFlight.wf = true) {e : Estimate}
    (hn : ∀ x ∈ s.slots, x.frame.bin ≠ e.frame.bin)
    (hf : t.flights = (s.slots ++ [e],
      (s.gates.setCount e.district (s.gates.count e.district + 1)).inFlight)) :
    t.InFlightSound := by
  obtain ⟨hs, hc⟩ := Prod.mk.inj hf
  refine ⟨?_, fun d => ?_⟩
  · rw [hs, List.map_append, List.nodup_append]
    exact ⟨h.bins, List.nodup_singleton _, by simpa using hn⟩
  · rw [hs, Gates.count, hc, List.filter_append, List.length_append, ← h.counts d]
    refine (Gates.count_setCount hw ..).trans ?_
    by_cases hd : d = e.district
    · simp [hd]
    · simp [hd, Ne.symm hd]

theorem vacate (h : s.InFlightSound) (hw : s.gates.inFlight.wf = true) {e : Estimate}
    (he : e ∈ s.slots) : (s.vacate e).InFlightSound := by
  refine ⟨h.bins.sublist (List.filter_sublist.map _), fun d => ?_⟩
  rw [State.vacate, length_ended h.bins he, ← h.counts d]
  refine (Gates.count_setCount hw ..).trans ?_
  by_cases hd : d = e.district <;> simp [hd]

/-- What a command can do to the estimates in flight keeps their counts. -/
theorem flightStep (h : s.InFlightSound) (hcan : s.Canonical) (hf : s.FlightStep t) :
    t.InFlightSound := by
  have hw := Table.wf_of_canonical hcan.inFlight
  cases hf with
  | same hf => exact h.of_flights hf
  | started e hn hf => exact h.of_started hw hn hf
  | ended e he hf => exact (h.vacate hw he).of_flights hf
  | cleared hf => exact of_cleared hf

end State.InFlightSound

/-- Settles O54: each command does to the estimates in flight what `State.FlightStep` says, and the
tick leaves them. -/
theorem everyStepKeepsInFlightCounts : Obligations.EveryStepKeepsInFlightCounts := by
  intro s t hcan hin hs
  unfold step at hs
  split at hs
  · unfold idle at hs
    split at hs
    · exact hin.flightStep hcan (exec_flightStep _ t hs)
    · cases hs
      exact hin.of_flights (flights_of_ledger State.ledger_tick)
  · next c rest _ =>
    have taken : State.InFlightSound { s with pending := rest } := hin.of_flights rfl
    exact taken.flightStep (hcan.setPending _) (exec_flightStep _ t hs)

end Sys2Proof.Machine
end

section
/-! PROOFS. The arithmetic of one sample: the correction for the speed of sound, the breakpoints and
the smoothing (R78, R84, R88). -/

namespace Sys2Proof.Machine

variable {p : Profile}

/-! ### The speed of sound (R78) -/

theorem soundCorrection_of_nonneg {t : Int} (h : 0 ≤ t) :
    soundCorrection t = (606 * t + 500) / 1000 := if_pos h

/-- Halves round away from zero on either side (R78). -/
theorem soundCorrection_neg {t : Int} (h : 0 ≤ t) : soundCorrection (-t) = -soundCorrection t := by
  rw [soundCorrection_of_nonneg h, soundCorrection]
  split
  · next hn =>
    obtain rfl : t = 0 := by omega
    decide
  · rw [neg_neg]

/-- The correction term over the temperatures that Stage 1 uses (R77, R78). -/
theorem soundCorrection_bounds {t : Int} (hl : -400 ≤ t) (hh : t ≤ 700) :
    -242 ≤ soundCorrection t ∧ soundCorrection t ≤ 424 := by
  unfold soundCorrection
  split <;> omega

theorem soundSpeed_eq {t : Int} (hl : -400 ≤ t) (hh : t ≤ 700) :
    (soundSpeed t : Int) = 3313 + soundCorrection t := by
  have := soundCorrection_bounds hl hh
  exact Int.toNat_of_nonneg (by omega)

theorem correctedDistance_le {c10 raw : Nat} (hc : c10 ≤ 3737) (hr : raw ≤ 4094) :
    correctedDistance c10 raw ≤ 4455 := by
  have := Nat.mul_le_mul hr hc
  unfold correctedDistance
  omega

/-- Settles O17, from the correction term over 0..70 degrees and its mirror below zero. -/
theorem correctedDistanceFollowsTheSpeedOfSound :
    Obligations.CorrectedDistanceFollowsTheSpeedOfSound := by
  refine ⟨fun t ht => ?_, fun t raw hl hh hr => ?_, by decide, by decide, by decide, by decide⟩
  · rw [soundCorrection_neg ht, soundCorrection_of_nonneg ht]
    omega
  · have speed := soundSpeed_eq hl hh
    have bounds := soundCorrection_bounds hl hh
    exact ⟨speed, rfl, correctedDistance_le (by omega) hr⟩

/-! ### The breakpoints (R58, R84) -/

/-- Along a well-formed list of breakpoints the distances rise and the fills do not (R58). -/
theorem pairwise_of_pointsDescend {pts : List (Nat × Nat)} (h : pointsDescend pts = true) :
    pts.Pairwise fun q r => q.1 < r.1 ∧ r.2 ≤ q.2 := by
  have trans : IsTrans (Nat × Nat) fun q r => q.1 < r.1 ∧ r.2 ≤ q.2 :=
    ⟨fun _ _ _ h h' => ⟨h.1.trans h'.1, h'.2.trans h.2⟩⟩
  refine List.isChain_iff_pairwise.1 ?_
  induction pts with
  | nil => exact .nil
  | cons q rest ih =>
    cases rest with
    | nil => exact .singleton q
    | cons r rest =>
      rw [pointsDescend, Bool.and_eq_true] at h
      obtain ⟨hqr, hrest⟩ := h
      exact .cons_cons (by simpa using hqr) (ih hrest)

/-- Between two neighbouring breakpoints the interpolation is that of the two (R84). -/
theorem interpolate_between {pre post : List (Nat × Nat)} {d0 f0 d1 f1 x : Nat}
    (h : (pre ++ (d0, f0) :: (d1, f1) :: post).Pairwise fun q r => q.1 < r.1 ∧ r.2 ≤ q.2)
    (h0 : d0 ≤ x) (h1 : x < d1) :
    interpolate (pre ++ (d0, f0) :: (d1, f1) :: post) x =
      f0 - ((f0 - f1) * (x - d0) + (d1 - d0) / 2) / (d1 - d0) := by
  induction pre with
  | nil =>
    rw [List.nil_append, interpolate]
    exact if_pos h1
  | cons q pre ih =>
    obtain ⟨-, hrest⟩ := List.pairwise_cons.1 h
    rw [← ih hrest]
    have passed : ∀ r ∈ (pre ++ (d0, f0) :: (d1, f1) :: post).head?, r.1 ≤ x := by
      intro r hr
      cases pre with
      | nil =>
        cases hr
        exact h0
      | cons r' pre =>
        cases hr
        have before := (List.pairwise_append.1 hrest).2.2 r (List.mem_cons_self ..) _
          (List.mem_cons_self ..)
        exact before.1.le.trans h0
    rw [List.cons_append]
    generalize pre ++ (d0, f0) :: (d1, f1) :: post = rest at passed ⊢
    cases rest with
    | nil => rfl
    | cons r rest =>
      rw [interpolate]
      exact if_neg (Nat.not_lt.2 (passed r rfl))

/-- A rounded part of a fall is no greater than the fall (R84). -/
theorem rounded_le {fall step span : Nat} (h : step < span) :
    (fall * step + span / 2) / span ≤ fall := by
  have part : fall * step ≤ fall * span := Nat.mul_le_mul_left fall h.le
  rw [← Nat.lt_succ_iff, Nat.div_lt_iff_lt_mul (by omega), Nat.succ_mul]
  omega

/-- The breakpoints of a profile in range (R56, R58). -/
theorem Profile.points_of_inRange (h : p.inRange = true) :
    p.points.head? = some (p.mouth, 1000) ∧ p.points.getLast? = some (p.depth, 0) ∧
      (p.points.Pairwise fun q r => q.1 < r.1 ∧ r.2 ≤ q.2) ∧ p.mouth < p.depth := by
  simp only [Profile.inRange, List.all_cons, List.all_nil, id, Bool.and_true, Bool.and_eq_true,
    decide_eq_true_eq, pointsWellFormed] at h
  obtain ⟨-, ⟨-, hm⟩, -, ⟨⟨⟨hhead, hlast⟩, hdesc⟩, -⟩, -⟩ := h
  exact ⟨hhead, hlast, pairwise_of_pointsDescend hdesc, by omega⟩

/-- The first breakpoint is the mouth, with fill 1000, and every other lies deeper (R58). -/
theorem Profile.mouth_le_point (hp : p.inRange = true) {q : Nat × Nat} (hq : q ∈ p.points) :
    q = (p.mouth, 1000) ∨ p.mouth < q.1 := by
  obtain ⟨hhead, -, hpair, -⟩ := Profile.points_of_inRange hp
  obtain ⟨rest, hpts⟩ := List.head?_eq_some_iff.1 hhead
  rw [hpts] at hq hpair
  rcases List.mem_cons.1 hq with rfl | hq
  · exact .inl rfl
  · exact .inr ((List.pairwise_cons.1 hpair).1 q hq).1

/-- No breakpoint lies below the depth (R58). -/
theorem Profile.point_le_depth (hp : p.inRange = true) {q : Nat × Nat} (hq : q ∈ p.points) :
    q.1 ≤ p.depth := by
  obtain ⟨-, hlast, hpair, -⟩ := Profile.points_of_inRange hp
  obtain ⟨before, hpts⟩ := List.getLast?_eq_some_iff.1 hlast
  rw [hpts] at hq hpair
  rcases List.mem_append.1 hq with hq | hq
  · exact ((List.pairwise_append.1 hpair).2.2 q hq _ (List.mem_singleton_self _)).1.le
  · exact (List.mem_singleton.1 hq ▸ le_rfl)

theorem mapFill_of_le_mouth {s : Int} (h : s ≤ p.mouth) : mapFill p s = 1000 := if_pos h

theorem mapFill_of_depth_le (hp : p.inRange = true) {s : Int} (h : (p.depth : Int) ≤ s) :
    mapFill p s = 0 := by
  obtain ⟨-, -, -, hmd⟩ := Profile.points_of_inRange hp
  rw [mapFill, if_neg (by omega), if_pos h]

/-- A surface between two neighbouring breakpoints (R84): at the mouth the interpolation gives the
fill of the first breakpoint, and the depth is not reached. -/
theorem mapFill_between (hp : p.inRange = true) {pre post : List (Nat × Nat)}
    {d0 f0 d1 f1 x : Nat} (hpts : p.points = pre ++ (d0, f0) :: (d1, f1) :: post) (h0 : d0 ≤ x)
    (h1 : x < d1) :
    mapFill p x = f0 - ((f0 - f1) * (x - d0) + (d1 - d0) / 2) / (d1 - d0) := by
  have first := Profile.mouth_le_point (q := (d0, f0)) hp (by simp [hpts])
  have last : d1 ≤ p.depth := Profile.point_le_depth (q := (d1, f1)) hp (by simp [hpts])
  by_cases hx : (x : Int) ≤ p.mouth
  · obtain ⟨rfl, rfl⟩ : d0 = p.mouth ∧ f0 = 1000 := by
      rcases first with h | h
      · exact Prod.mk.inj h
      · dsimp only at h
        omega
    obtain rfl : x = p.mouth := by omega
    rw [mapFill_of_le_mouth hx, Nat.sub_self, Nat.mul_zero, Nat.zero_add,
      Nat.div_eq_of_lt (Nat.div_lt_self (by omega) (by decide)), Nat.sub_zero]
  · obtain ⟨-, -, hpair, -⟩ := Profile.points_of_inRange hp
    rw [hpts] at hpair
    rw [mapFill, if_neg hx, if_neg (by omega), hpts]
    exact interpolate_between hpair h0 h1

/-- Settles O18: the mouth, the depth, and the surfaces between two breakpoints. -/
theorem fillFollowsTheBreakpoints : Obligations.FillFollowsTheBreakpoints := by
  refine fun p s hp => ⟨mapFill_of_le_mouth, mapFill_of_depth_le hp, mapFill_le hp s,
    fun pre post d0 f0 d1 f1 x hpts h0 h1 => ?_⟩
  have between := mapFill_between hp hpts h0 h1
  obtain ⟨-, -, hpair, -⟩ := Profile.points_of_inRange hp
  rw [hpts] at hpair
  have falls : f1 ≤ f0 :=
    ((List.pairwise_cons.1 (List.pairwise_append.1 hpair).2.1).1 _ (List.mem_cons_self ..)).2
  have part := rounded_le (fall := f0 - f1) (step := x - d0) (span := d1 - d0) (by omega)
  exact ⟨between, by omega, between.trans_le (Nat.sub_le ..)⟩

/-! ### Smoothing (R88) -/

/-- A rise is smoothed by the weight in eighths of it, rounded down. -/
theorem smoothed_of_le {fill f16 : Nat} (h : f16 ≤ fill * 16) :
    smoothed p fill (some f16) = f16 + (fill * 16 - f16) * p.weight / 8 := by
  have rise : (((fill * 16 : Nat) : Int) - f16) * p.weight =
      (((fill * 16 - f16) * p.weight : Nat) : Int) := by
    rw [Nat.cast_mul (fill * 16 - f16), Nat.cast_sub h]
  simp only [smoothed]
  rw [rise, Int.tdiv_eq_ediv_of_nonneg (Int.natCast_nonneg _)]
  omega

/-- A fall is smoothed by the weight in eighths of it, rounded down. -/
theorem smoothed_of_ge {fill f16 : Nat} (h : fill * 16 ≤ f16) :
    smoothed p fill (some f16) = f16 - (f16 - fill * 16) * p.weight / 8 := by
  have fall : (((fill * 16 : Nat) : Int) - f16) * p.weight =
      -(((f16 - fill * 16) * p.weight : Nat) : Int) := by
    rw [Nat.cast_mul (f16 - fill * 16), Nat.cast_sub h]
    ring
  simp only [smoothed]
  rw [fall, Int.neg_tdiv, Int.tdiv_eq_ediv_of_nonneg (Int.natCast_nonneg _)]
  omega

/-- Settles O19, by the two directions of the move. -/
theorem smoothingMovesTowardTheSample : Obligations.SmoothingMovesTowardTheSample := by
  intro p fill f16 new hw hnew
  have eighths : ∀ k : Nat, k * p.weight / 8 ≤ k := fun k =>
    Nat.div_le_of_le_mul ((Nat.mul_le_mul_left k hw).trans_eq (Nat.mul_comm ..))
  have up : f16 ≤ fill * 16 → new = f16 + (fill * 16 - f16) * p.weight / 8 :=
    fun h => hnew.trans (smoothed_of_le h)
  have down : fill * 16 ≤ f16 → new = f16 - (f16 - fill * 16) * p.weight / 8 :=
    fun h => hnew.trans (smoothed_of_ge h)
  have rise := eighths (fill * 16 - f16)
  have fall := eighths (f16 - fill * 16)
  refine ⟨rfl, fun h => ?_, fun h => ?_, fun h8 => ?_, up, down⟩
  · have := up h
    omega
  · have := down h
    omega
  · rw [h8, Nat.mul_div_cancel _ (by decide)] at up down
    omega

end Sys2Proof.Machine
end

section
/-! PROOFS. What a completion writes, hands over, tallies and raises (R72, R75, R93, R94, R99). -/

namespace Sys2Proof.Machine

variable {s t v w : State} {e : Estimate} {c : Completion}

/-! ### Tallies (R93, R99) -/

theorem FlagDetail.place_lt (d : FlagDetail) : d.place < tallyCount := by
  cases d <;> decide

/-- The details of an outcome are counted one by one in their row. -/
theorem Gates.tally_foldl_tallyUp {g : Gates} (h : g.tallies.wf = true) (row : Nat)
    (l : List FlagDetail) (r : Nat) {k : Nat} (hk : k < tallyCount) :
    (l.foldl (fun g d => g.tallyUp row d.place) g).tally r k = g.tally r k +
      BitVec.ofNat 32 (if r = row then l.countP fun x => x.place == k else 0) := by
  induction l generalizing g with
  | nil => simp
  | cons d rest ih =>
    rw [List.foldl_cons, ih (Table.wf_set h ..), Gates.tally_tallyUp h d.place_lt hk]
    by_cases hr : r = row
    · by_cases hd : k = d.place
      · simp only [hr, hd, and_self, if_true, List.countP_cons, beq_self_eq_true, BitVec.ofNat_add]
        rw [add_assoc, add_comm (1 : BitVec 32)]
        rfl
      · simp [hr, hd, Ne.symm hd]
    · simp [hr]

/-- The tally of an outcome reads the gate block alone. -/
theorem State.tallyCompletion_tallies (h : w.gates = s.gates) (row : Nat) (l : List FlagDetail) :
    (w.tallyCompletion row l).gates.tallies = (s.tallyCompletion row l).gates.tallies := by
  unfold State.tallyCompletion State.tallyOutcome
  rw [h]
  split <;> rfl

/-- APPLIED, or FLAGGED with each detail, in one row (R93). -/
theorem State.tally_tallyCompletion (h : s.gates.tallies.wf = true) (row : Nat)
    (l : List FlagDetail) (r : Nat) {k : Nat} (hk : k < tallyCount) :
    (s.tallyCompletion row l).gates.tally r k = s.gates.tally r k + BitVec.ofNat 32
      (if r = row then (if k = (if l = [] then 0 else 1) then 1 else 0) +
        l.countP (fun x => x.place == k) else 0) := by
  unfold State.tallyCompletion
  by_cases hl : l = []
  · rw [if_pos hl, if_pos hl, hl]
    refine (Gates.tally_tallyUp h OutcomeCode.applied.place_lt hk).trans ?_
    by_cases hr : r = row
    · by_cases hz : k = 0 <;> simp [hr, hz, OutcomeCode.place]
    · simp [hr]
  · rw [if_neg hl, if_neg hl]
    refine (Gates.tally_foldl_tallyUp (Table.wf_set h ..) row l r hk).trans ?_
    rw [Gates.tally_tallyUp h OutcomeCode.flagged.place_lt hk]
    by_cases hr : r = row
    · by_cases hz : k = 1
      · simp only [hr, hz, OutcomeCode.place, and_self, if_true, BitVec.ofNat_add, add_assoc]
        rfl
      · simp [hr, hz, OutcomeCode.place]
    · simp [hr]

/-! ### Hand-overs to the collection-due queue (R115 to R118) -/

/-- Two states agree in the collection-due queue and in every bin's unqueued flag. -/
structure State.QueueAlike (v w : State) : Prop where
  left : v.bins.records.wf = true
  right : w.bins.records.wf = true
  due : v.due = w.due
  unqueued : ∀ b, (v.record b).unqueued = (w.record b).unqueued

theorem State.unqueued_setUnqueued (h : s.bins.records.wf = true) (b i : Nat) (f : Bool) :
    ((s.setUnqueued b f).record i).unqueued = if i = b then f else (s.record i).unqueued := by
  unfold State.setUnqueued
  rw [State.record_setRecord h]
  split <;> rfl

namespace State.QueueAlike

theorem setUnqueued (h : v.QueueAlike w) (b : Nat) (f : Bool) :
    (v.setUnqueued b f).QueueAlike (w.setUnqueued b f) :=
  ⟨Table.wf_set h.left .., Table.wf_set h.right .., h.due, fun i => by
    rw [State.unqueued_setUnqueued h.left, State.unqueued_setUnqueued h.right, h.unqueued]⟩

theorem setDue (h : v.QueueAlike w) {q q' : List DueEntry} (hq : q = q') :
    State.QueueAlike { v with due := q } { w with due := q' } :=
  ⟨h.left, h.right, hq, h.unqueued⟩

theorem placeDue (h : v.QueueAlike w) (x : DueEntry) (q : List DueEntry) :
    (v.placeDue x q).QueueAlike (w.placeDue x q) := (h.setDue rfl).setUnqueued ..

theorem handSilent (h : v.QueueAlike w) (b : Nat) (f : Bool) :
    (v.handSilent b f).QueueAlike (w.handSilent b f) := h.setDue (by rw [h.due])

theorem handPrediction (h : v.QueueAlike w) (x : DueEntry) :
    (v.handPrediction x).QueueAlike (w.handPrediction x) := by
  unfold State.handPrediction
  rw [h.due]
  dsimp only
  split
  · exact h.placeDue ..
  · split
    · exact h.placeDue ..
    · split
      · exact (h.setUnqueued ..).placeDue ..
      · exact (h.setDue rfl).setUnqueued ..

theorem handDue (h : v.QueueAlike w) (b d : Nat) (x : DueUpdate) :
    (v.handDue b d x).QueueAlike (w.handDue b d x) := by
  cases x with
  | nothing => exact h
  | removal => exact (h.setDue (by rw [h.due])).setUnqueued ..
  | prediction due isOver coarse => exact h.handPrediction _

/-- The write of a bin's assignment and calibration entry leaves queue and flags. -/
theorem written (hr : s.bins.records.wf = true) (b : Nat) (a : Option Assigned)
    (l : Option Int) : ((s.setAssigned b a).setLearned b l).QueueAlike s :=
  ⟨Table.wf_set hr .., hr, rfl, fun i => by
    rw [State.record_setLearned, State.record_setAssigned hr]
    split
    · next hi => rw [hi]
    · rfl⟩

end State.QueueAlike

/-- A due update changes the due queue and unqueued flags alone. -/
theorem State.handDue_frame (b d : Nat) (x : DueUpdate) (s : State) : s.handDue b d x =
    { s with due := (s.handDue b d x).due
             bins := { s.bins with records := (s.handDue b d x).bins.records } } := by
  cases x with
  | nothing => rfl
  | removal => rfl
  | prediction due isOver coarse =>
    unfold State.handDue
    rcases State.handPrediction_cases
      { bin := b, district := d, due := due, isOver := isOver, silent := false, coarse := coarse } s
      with ⟨-, h⟩ | ⟨_, -, -, -, h⟩ | ⟨_, -, -, -, h⟩ <;>
      · dsimp only
        rw [h]
        rfl

/-! ### What a completion writes and hands over (R72, R75) -/

theorem State.handedOver_frame (e : Estimate) (c : Completion) (s : State) : s.handedOver e c =
    { s with due := (s.handedOver e c).due
             bins := { records := (s.handedOver e c).bins.records
                       calibration := s.bins.calibration.set e.frame.bin c.learned
                       sweepDue := s.bins.sweepDue } } := by
  unfold State.handedOver
  dsimp only
  split <;>
  · rw [State.handDue_frame]
    rfl

/-- The due queue and the unqueued flags are as the hand-overs alone leave them. -/
theorem State.handedOver_queueAlike (hr : s.bins.records.wf = true) :
    (s.handedOver e c).QueueAlike
      ((if c.clearSilent then s.handSilent e.frame.bin false else s).handDue e.frame.bin
        e.district c.due) := by
  have written := State.QueueAlike.written hr e.frame.bin (some c.record) c.learned
  unfold State.handedOver
  dsimp only
  split
  · exact (written.handSilent ..).handDue ..
  · exact written.handDue ..

theorem State.assigned_handedOver (hr : s.bins.records.wf = true) (i : Nat) :
    (s.handedOver e c).assigned i = if i = e.frame.bin then some c.record else s.assigned i := by
  rw [← State.assigned_setAssigned hr]
  unfold State.handedOver
  dsimp only
  split
  · exact State.assigned_handDue (Table.wf_set hr ..) ..
  · exact State.assigned_handDue (Table.wf_set hr ..) ..

/-! ### The whole completion -/

/-- Everything that a completion changes, block by block. -/
theorem State.applyCompletion_frame (e : Estimate) (c : Completion) (s : State) :
    s.applyCompletion e c =
      { s with
        bins := (s.handedOver e c).bins
        due := (s.handedOver e c).due
        slots := s.slots.filter fun x => x.frame.bin != e.frame.bin
        gates := { s.gates with
          inFlight := (s.gates.setCount e.district (s.gates.count e.district - 1)).inFlight
          tallies := (s.tallyCompletion e.district c.details).gates.tallies }
        watch := s.watch.takeGroup s.time (completionEvents e c) } := by
  rw [State.applyCompletion_eq, State.tallyCompletion_frame,
    State.tallyCompletion_tallies (s := s) (by rw [State.handedOver_frame])]
  generalize (s.tallyCompletion e.district c.details).gates.tallies = tallies
  rw [State.handedOver_frame]
  rfl

theorem find_flight (h : s.InFlightSound) (he : e ∈ s.slots) :
    (s.slots.find? fun x => x.frame.bin == e.frame.bin) = some e := by
  obtain ⟨before, after, hs, hb, -⟩ := exists_flight_split h.bins he
  exact List.find?_eq_some_iff_append.2
    ⟨beq_self_eq_true _, before, after, hs, fun x hx => by simpa using hb x hx⟩

theorem exec_estimateCompletion {a : Assigned} (h : s.InFlightSound) (hr : s.phase = .running)
    (he : e ∈ s.slots) (ha : s.assigned e.frame.bin = some a) :
    exec (.estimateCompletion e.frame.bin) s =
      .next (s.applyCompletion e (s.completionOf e a)) := by
  show execEstimateCompletion e.frame.bin s = _
  unfold execEstimateCompletion
  rw [State.whenRunning_of_running hr, find_flight h he]
  dsimp only
  rw [State.complete, ha]

/-- Settles O15: each part is read off the whole completion. -/
theorem completionWritesItsBinAndFreesItsSlot :
    Obligations.CompletionWritesItsBinAndFreesItsSlot := by
  intro s e a c hcan hin hrun he ha hc
  have hr := Table.wf_of_canonical hcan.records
  have hx := exec_estimateCompletion hin hrun he ha
  rw [show s.completionOf e a = c from hc.symm] at hx
  have frame := State.applyCompletion_frame e c s
  have handed := State.handedOver_frame e c s
  have alike := State.handedOver_queueAlike (e := e) (c := c) hr
  have placed : s.KeepsAssignments (s.applyCompletion e c) :=
    .applyCompletion ha (hc ▸ placing_completion ..)
  generalize s.applyCompletion e c = t at hx frame placed
  have bins : t.bins = (s.handedOver e c).bins := by rw [frame]
  have record : ∀ b, t.record b = (s.handedOver e c).record b := fun b => by
    rw [State.record, bins, State.record]
  refine ⟨t, hx, by rw [frame], fun b => ?_, fun b => ?_, placed.mapped hr, by rw [frame],
    fun d => ?_, by rw [frame], by rw [frame], by rw [frame], fun r k hk => ?_, ?_,
    fun u hu => ⟨?_, fun b => ?_⟩, by rw [frame]; rfl⟩
  · rw [State.assigned, record]
    exact State.assigned_handedOver hr b
  · rw [State.learned, bins, handed]
    exact Table.get_set hcan.calibration ..
  · rw [frame]
    refine (Gates.count_setCount (Table.wf_of_canonical hcan.inFlight) ..).trans ?_
    split
    · next hd => rw [hd]
    · rfl
  · rw [frame]
    exact State.tally_tallyCompletion (Table.wf_of_canonical hcan.tallies) _ _ _ hk
  · rw [bins, handed]
  · rw [frame, hu]
    exact alike.due
  · rw [record, hu]
    exact alike.unqueued b

end Sys2Proof.Machine
end

section
/-! PROOFS. The temperature and the valid echoes of a reading, and the selection of an echo in
ACTIVE (R77, R79 to R81). -/

namespace Sys2Proof.Machine

open Sys2Proof.Statements

variable {p : Profile} {e : Echo} {es : List Echo} {held : Option Int}

/-! ### The temperature and the valid echoes (R77, R79) -/

/-- A temperature outside −40 to 70 degrees is taken as the nearer limit, with a flag (R77). -/
theorem chosenTemp_eq (p : Profile) (raw : Int) : chosenTemp p raw =
    if raw = -32768 then (p.defaultTemp, false)
    else (max (-400) (min 700 raw), decide (raw < -400 ∨ 700 < raw)) := by
  unfold chosenTemp
  split
  · rfl
  · split
    · next h => exact Prod.ext (by dsimp only; omega) (decide_eq_true (.inl h)).symm
    · split
      · next h => exact Prod.ext (by dsimp only; omega) (decide_eq_true (.inr h)).symm
      · next hl hh => exact Prod.ext (by dsimp only; omega) (decide_eq_false (by omega)).symm

theorem validEcho_eq (p : Profile) (offset : Int) (d : Nat) : validEcho p offset d =
    if d < 50 ∨ (p.depth : Int) + 100 < d - offset ∨
        (p.kind = .glass ∧ (d : Int) - offset < p.mouth) then none
    else some { corr := d
                surf := if p.kind = .litter then max (d - offset) 0 else d - offset } := by
  unfold validEcho
  cases p.kind <;> simp [← or_assoc, ite_or]

/-! ### Litter selection (R80) -/

/-- The first of the smallest surface distances: what the list held before it is farther. -/
theorem selectLitter_spec (h : selectLitter es = some e) :
    ∃ before after, es = before ++ e :: after ∧ (∀ x ∈ before, e.surf < x.surf) ∧
      ∀ x ∈ after, e.surf ≤ x.surf := by
  cases es with
  | nil => cases h
  | cons y rest =>
    simp only [selectLitter, bestEcho, Option.some.injEq, decide_eq_true_eq] at h
    subst h
    induction rest generalizing y with
    | nil => exact ⟨[], [], rfl, List.forall_mem_nil _, List.forall_mem_nil _⟩
    | cons z rest ih =>
      rw [List.foldl_cons]
      split
      · next hzy =>
        obtain ⟨before, after, hes, hb, ha⟩ := ih z
        generalize List.foldl _ z rest = r at hes hb ha ⊢
        have reached : r.surf ≤ z.surf := by
          have hz : z ∈ before ++ r :: after := hes ▸ List.mem_cons_self ..
          rcases List.mem_append.1 hz with hz | hz
          · exact (hb z hz).le
          · rcases List.mem_cons.1 hz with rfl | hz
            · exact le_rfl
            · exact ha z hz
        exact ⟨y :: before, after, by rw [hes]; rfl,
          List.forall_mem_cons.2 ⟨reached.trans_lt hzy, hb⟩, ha⟩
      · next hzy =>
        obtain ⟨before, after, hes, hb, ha⟩ := ih y
        generalize List.foldl _ y rest = r at hes hb ha ⊢
        cases before with
        | nil =>
          obtain ⟨rfl, rfl⟩ := List.cons.inj hes
          exact ⟨[], z :: rest, rfl, List.forall_mem_nil _,
            List.forall_mem_cons.2 ⟨not_lt.1 hzy, ha⟩⟩
        | cons y' before =>
          obtain ⟨rfl, rfl⟩ := List.cons.inj hes
          obtain ⟨hy, hb⟩ := List.forall_mem_cons.1 hb
          exact ⟨y :: z :: before, after, rfl, List.forall_mem_cons.2
            ⟨hy, List.forall_mem_cons.2 ⟨hy.trans_le (not_lt.1 hzy), hb⟩⟩, ha⟩

/-! ### Glass selection (R81) -/

theorem insertEcho_perm (x : Echo) (l : List Echo) : (insertEcho x l).Perm (x :: l) := by
  induction l with
  | nil => exact .refl _
  | cons y rest ih =>
    unfold insertEcho
    split
    · exact .refl _
    · exact (ih.cons y).trans (.swap ..)

theorem insertEcho_sorted (x : Echo) {l : List Echo}
    (h : l.Pairwise fun a b => a.surf ≤ b.surf) :
    (insertEcho x l).Pairwise fun a b => a.surf ≤ b.surf := by
  induction l with
  | nil => exact List.pairwise_singleton ..
  | cons y rest ih =>
    obtain ⟨hy, hrest⟩ := List.pairwise_cons.1 h
    unfold insertEcho
    split
    · next hlt =>
      exact List.pairwise_cons.2 ⟨List.forall_mem_cons.2
        ⟨hlt.le, fun z hz => hlt.le.trans (hy z hz)⟩, h⟩
    · next hle =>
      refine List.pairwise_cons.2 ⟨fun z hz => ?_, ih hrest⟩
      rcases List.mem_cons.1 ((insertEcho_perm x rest).mem_iff.1 hz) with rfl | hz
      · exact not_lt.1 hle
      · exact hy z hz

/-- Sorting keeps the echoes and puts them in ascending order of surface distance. -/
theorem sortEchoes_spec (es : List Echo) : (sortEchoes es).Perm es ∧
    (sortEchoes es).Pairwise fun a b => a.surf ≤ b.surf := by
  have inserted : ∀ acc : List Echo, (acc.Pairwise fun a b => a.surf ≤ b.surf) →
      (es.foldl (fun l e => insertEcho e l) acc).Perm (es ++ acc) ∧
        (es.foldl (fun l e => insertEcho e l) acc).Pairwise fun a b => a.surf ≤ b.surf := by
    induction es with
    | nil => exact fun acc h => ⟨.refl _, h⟩
    | cons x rest ih =>
      intro acc h
      obtain ⟨hp, hs⟩ := ih (insertEcho x acc) (insertEcho_sorted x h)
      exact ⟨hp.trans (((insertEcho_perm x acc).append_left rest).trans List.perm_middle), hs⟩
  have sorted := inserted [] List.Pairwise.nil
  rwa [List.append_nil] at sorted

/-- In ascending order no more than `i` echoes are nearer than the one numbered `i`, and more than
`i` are no farther. -/
theorem count_around {m : List Echo} (h : m.Pairwise fun a b => a.surf ≤ b.surf) {i : Nat}
    (hi : m[i]? = some e) : (m.filter fun x => decide (x.surf < e.surf)).length ≤ i ∧
      i < (m.filter fun x => decide (x.surf ≤ e.surf)).length := by
  obtain ⟨hlt, rfl⟩ := List.getElem?_eq_some_iff.1 hi
  have split : m = m.take i ++ m[i] :: m.drop (i + 1) := by
    rw [← List.drop_eq_getElem_cons hlt, List.take_append_drop]
  have length : (m.take i).length = i := List.length_take_of_le hlt.le
  rw [split, List.pairwise_append, List.pairwise_cons] at h
  obtain ⟨-, ⟨hafter, -⟩, hbefore⟩ := h
  generalize m[i] = e at split hafter hbefore ⊢
  generalize m.take i = before at split length hbefore
  generalize m.drop (i + 1) = after at split hafter hbefore
  have farther : after.filter (fun x => decide (x.surf < e.surf)) = [] :=
    List.filter_eq_nil_iff.2 fun x hx => by simpa using hafter x hx
  have nearer : before.filter (fun x => decide (x.surf ≤ e.surf)) = before :=
    List.filter_eq_self.2 fun x hx => by simpa using hbefore x hx e (List.mem_cons_self ..)
  rw [split, ← length]
  constructor
  · simpa [farther] using List.length_filter_le ..
  · simp [nearer]

/-- The lower median by its place in ascending order. -/
theorem lowerMedian_spec (h : lowerMedian es = some e) : e ∈ es ∧
    (es.filter fun x => decide (x.surf < e.surf)).length ≤ (es.length - 1) / 2 ∧
    (es.length - 1) / 2 < (es.filter fun x => decide (x.surf ≤ e.surf)).length := by
  obtain ⟨hp, hs⟩ := sortEchoes_spec es
  rw [← (hp.filter _).length_eq, ← (hp.filter fun x => decide (x.surf ≤ e.surf)).length_eq]
  exact ⟨hp.mem_iff.1 (List.mem_of_getElem? h), count_around hs h⟩

theorem lowerMedian_eq_none : lowerMedian es = none ↔ es = [] := by
  obtain ⟨hp, -⟩ := sortEchoes_spec es
  rw [lowerMedian, List.getElem?_eq_none_iff, hp.length_eq, ← List.length_eq_zero_iff]
  omega

/-- Glass selection tracks where an echo lies within the window of the held surface distance, and
takes the lower median where none does. -/
theorem selectGlass_cases (p : Profile) (held : Option Int) (es : List Echo) :
    (∃ h x, held = some h ∧ x ∈ es ∧ (x.surf - h).natAbs ≤ p.track ∧
      selectGlass p held es = bestEcho (nearer h)
        (es.filter fun e => decide ((e.surf - h).natAbs ≤ p.track))) ∨
    ((∀ h, held = some h → ∀ x ∈ es, p.track < (x.surf - h).natAbs) ∧
      selectGlass p held es = lowerMedian es) := by
  cases held with
  | none => exact .inr ⟨fun h hh => (by cases hh), rfl⟩
  | some h =>
    cases hb : bestEcho (nearer h)
        (es.filter fun e => decide ((e.surf - h).natAbs ≤ p.track)) with
    | none =>
      refine .inr ⟨fun h' hh x hx => ?_, by simp only [selectGlass, hb]⟩
      cases hh
      simpa using List.filter_eq_nil_iff.1 (bestEcho_eq_none.2 hb) x hx
    | some e =>
      have hm := List.mem_filter.1 (bestEcho_nearer hb).1
      exact .inl ⟨h, e, rfl, hm.1, of_decide_eq_true hm.2, by simp only [selectGlass, hb]⟩

theorem selectActive_eq_none : es = [] ↔ selectActive p held es = none := by
  unfold selectActive
  cases p.kind with
  | litter => exact bestEcho_eq_none
  | glass =>
    dsimp only
    rcases selectGlass_cases p held es with ⟨h, x, -, hx, hw, hs⟩ | ⟨-, hs⟩ <;> rw [hs]
    · rw [← bestEcho_eq_none, List.filter_eq_nil_iff]
      refine ⟨fun he => ?_, fun hn => absurd (decide_eq_true hw) (hn x hx)⟩
      rw [he] at hx
      cases hx
    · exact lowerMedian_eq_none.symm

/-- The echo selected in ACTIVE, in the words of R80 and R81. -/
theorem selectedInActive (h : selectActive p held es = some e) : SelectedInActive p held es e := by
  unfold selectActive at h
  unfold SelectedInActive
  cases hk : p.kind with
  | litter =>
    rw [hk] at h
    exact selectLitter_spec h
  | glass =>
    rw [hk] at h
    dsimp only at h ⊢
    rcases selectGlass_cases p held es with ⟨k, x, rfl, hx, hw, hs⟩ | ⟨hfar, hs⟩ <;> rw [hs] at h
    · obtain ⟨hm, hbest⟩ := bestEcho_nearer h
      obtain ⟨hm, hin⟩ := List.mem_filter.1 hm
      refine ⟨hm, ?_, fun hfar => absurd hw (not_le.2 (hfar k rfl x hx))⟩
      rintro h' ⟨⟩ - y hy
      by_cases hyw : (y.surf - k).natAbs ≤ p.track
      · exact hbest y (List.mem_filter.2 ⟨hy, decide_eq_true hyw⟩)
      · exact .inl ((of_decide_eq_true hin).trans_lt (not_le.1 hyw))
    · obtain ⟨hm, hmedian⟩ := lowerMedian_spec h
      refine ⟨hm, ?_, fun _ => hmedian⟩
      rintro k hk ⟨y, hy, hw⟩
      exact absurd hw (not_le.2 (hfar k hk y hy))

end Sys2Proof.Machine
end

section
/-! PROOFS. A READING in ACTIVE: the heaped flag, the collection with its short calibration, the
rate, the thresholds and the due update (R72, R85 to R91). -/

namespace Sys2Proof.Machine

open Sys2Proof.Statements

variable {p : Profile} {env : Surroundings} {payload : List Byte} {arrival : Nat} {gap : Option Nat}
  {a : Assigned} {learned : Option Int} {e : Echo} {clamped : Bool} {c : Completion}

/-! ### Flags with hysteresis (R90) -/

theorem rose_iff {before after : Bool} :
    rose before after = true ↔ before = false ∧ after = true := by
  cases before <;> cases after <;> decide

theorem crossedNext_of_le {flag : Bool} {threshold fill : Nat} (h : threshold ≤ fill) :
    crossedNext flag threshold fill = true := if_pos h

theorem crossedNext_between {flag : Bool} {threshold fill : Nat} (h : fill < threshold)
    (h' : threshold ≤ fill + 50) : crossedNext flag threshold fill = flag := by
  rw [crossedNext, if_neg (by omega), if_neg (by omega)]

theorem crossedNext_of_lt {flag : Bool} {threshold fill : Nat} (h : fill + 50 < threshold) :
    crossedNext flag threshold fill = false := by
  rw [crossedNext, if_neg (by omega), if_pos h]

/-- A flag that was clear rises exactly at its threshold. -/
theorem crossedNext_false (threshold fill : Nat) :
    crossedNext false threshold fill = decide (threshold ≤ fill) := by
  unfold crossedNext
  split
  · next h => exact (decide_eq_true h).symm
  · next h => rw [decide_eq_false h, ite_self]

theorem rose_crossedNext {flag : Bool} {threshold fill : Nat} :
    rose flag (crossedNext flag threshold fill) = true ↔ flag = false ∧ threshold ≤ fill := by
  rw [rose_iff]
  refine and_congr_right fun h => ?_
  rw [h, crossedNext_false, decide_eq_true_eq]

theorem dueCrossedNext_isSome (flag : Option Nat) (threshold fill arrival : Nat) :
    (dueCrossedNext flag threshold fill arrival).isSome =
      crossedNext flag.isSome threshold fill := by
  unfold dueCrossedNext
  cases crossedNext flag.isSome threshold fill with
  | false => rfl
  | true => cases flag <;> rfl

theorem dueCrossedNext_of_le {flag : Option Nat} {threshold fill : Nat} (h : threshold ≤ fill) :
    dueCrossedNext flag threshold fill arrival = some (flag.getD arrival) := by
  unfold dueCrossedNext
  rw [crossedNext_of_le h]
  cases flag <;> rfl

theorem dueCrossedNext_between {flag : Option Nat} {threshold fill : Nat} (h : fill < threshold)
    (h' : threshold ≤ fill + 50) : dueCrossedNext flag threshold fill arrival = flag := by
  unfold dueCrossedNext
  rw [crossedNext_between h h']
  cases flag <;> rfl

theorem dueCrossedNext_of_lt {flag : Option Nat} {threshold fill : Nat}
    (h : fill + 50 < threshold) : dueCrossedNext flag threshold fill arrival = none := by
  unfold dueCrossedNext
  rw [crossedNext_of_lt h]
  rfl

/-- A due crossed flag that was clear rises exactly at its threshold, at the reading's arrival. -/
theorem dueCrossedNext_none (threshold fill arrival : Nat) :
    dueCrossedNext none threshold fill arrival =
      if threshold ≤ fill then some arrival else none := by
  unfold dueCrossedNext
  rw [Option.isSome_none, crossedNext_false]
  simp only [decide_eq_true_eq]

/-! ### Stage 6 (R89 to R91) -/

/-- A rate in natural numbers: a fall gives 0 (R89). -/
theorem rateOver_eq (new old elapsed : Nat) : rateOver ((new : Int) - old) elapsed =
    min 2000 ((new - old) * 86400 / (16 * elapsed)) := by
  unfold rateOver
  congr 1
  rcases Nat.le_total old new with h | h
  · have rise : ((new : Int) - old) * 86400 = (((new - old) * 86400 : Nat) : Int) := by
      rw [Nat.cast_mul, Nat.cast_sub h]
      rfl
    rw [rise, Int.tdiv_eq_ediv_of_nonneg (Int.natCast_nonneg _)]
    exact Int.toNat_natCast ((new - old) * 86400 / (16 * elapsed))
  · have fall : ((new : Int) - old) * 86400 = -(((old - new) * 86400 : Nat) : Int) := by
      rw [Nat.cast_mul, Nat.cast_sub h]
      push_cast
      ring
    rw [fall, Int.neg_tdiv, Int.tdiv_eq_ediv_of_nonneg (Int.natCast_nonneg _),
      Nat.sub_eq_zero_of_le h, Nat.zero_mul, Nat.zero_div]
    exact Int.toNat_of_nonpos (neg_nonpos.2 (Int.ediv_nonneg (by positivity) (by positivity)))

/-- The rate that a reading computes from an anchor, once the minimum span has passed (R89). -/
theorem newRate_eq {k : Anchor} {f : Nat} (hk : a.anchor = some k) (hf : a.f16 = some f) :
    newRate p arrival a = if p.minSpan ≤ arrival - k.time then
      some (min 2000 ((f - k.f16) * 86400 / (16 * (arrival - k.time)))) else none := by
  rw [newRate, hk, hf]
  dsimp only
  rw [rateOver_eq]
  rfl

theorem movedAnchor_eq {k : Anchor} {f : Nat} (hk : a.anchor = some k) (hf : a.f16 = some f) :
    movedAnchor arrival a = if 604800 < arrival - k.time then
      some { time := arrival, f16 := f } else some k := by
  rw [movedAnchor, hk, hf]
  rfl

theorem stage6_of_newRate {r : Nat} (h : newRate p arrival a = some r) :
    (stage6 p arrival a).rate = some r ∧
      (stage6 p arrival a).fastFill = fastFillNext p.fastLimit r := by
  simp only [stage6, h, and_self]

theorem stage6_of_no_newRate (h : newRate p arrival a = none) :
    (stage6 p arrival a).rate = a.rate ∧ (stage6 p arrival a).fastFill = a.fastFill := by
  simp only [stage6, h, and_self]

/-- The events of the threshold tests, one by one (R90). -/
theorem mem_stage6Events {k : WatchClass} {v : Int} : (k, v) ∈ stage6Events p arrival a ↔
    (a.dueCrossed = none ∧ p.dueAt ≤ a.fillOrZero ∧ k = .due ∧ v = (a.fillOrZero : Int)) ∨
    (a.fullCrossed = false ∧ p.fullAt ≤ a.fillOrZero ∧ k = .full ∧ v = (a.fillOrZero : Int)) ∨
    (a.fastFill = false ∧ (stage6 p arrival a).fastFill = true ∧ k = .fastFill ∧
      v = (((stage6 p arrival a).rate.getD 0 : Nat) : Int)) := by
  have fill : (stage6 p arrival a).fillOrZero = a.fillOrZero := rfl
  have due : rose a.dueCrossed.isSome (stage6 p arrival a).dueCrossed.isSome = true ↔
      a.dueCrossed = none ∧ p.dueAt ≤ a.fillOrZero := by
    rw [show (stage6 p arrival a).dueCrossed.isSome = _ from dueCrossedNext_isSome ..,
      rose_crossedNext, Option.isSome_eq_false_iff, Option.isNone_iff_eq_none]
  have full : rose a.fullCrossed (stage6 p arrival a).fullCrossed = true ↔
      a.fullCrossed = false ∧ p.fullAt ≤ a.fillOrZero := rose_crossedNext
  have fast : rose a.fastFill (stage6 p arrival a).fastFill = true ↔
      a.fastFill = false ∧ (stage6 p arrival a).fastFill = true := rose_iff
  simp only [stage6Events, List.flatten_cons, List.flatten_nil, List.append_nil, List.mem_append,
    mem_eventIf, fill, due, full, fast, and_assoc]

/-- Once the minimum span has passed the rate is computed, and the fast fill flag follows it with
its event (R89, R90). -/
theorem stage6_rate {k : Anchor} {f : Nat} (hk : a.anchor = some k) (hf : a.f16 = some f)
    (hs : p.minSpan ≤ arrival - k.time) : ∃ r, (stage6 p arrival a).rate = some r ∧
      r = min 2000 ((f - k.f16) * 86400 / (16 * (arrival - k.time))) ∧
      (stage6 p arrival a).fastFill = decide (0 < p.fastLimit ∧ p.fastLimit < r) ∧
      ∀ v, (WatchClass.fastFill, v) ∈ stage6Events p arrival a ↔
        a.fastFill = false ∧ (stage6 p arrival a).fastFill = true ∧ v = (r : Int) := by
  have computed := (newRate_eq (p := p) hk hf).trans (if_pos hs)
  generalize hr : min 2000 ((f - k.f16) * 86400 / (16 * (arrival - k.time))) = r at computed
  obtain ⟨rate, fast⟩ := stage6_of_newRate computed
  refine ⟨r, rate, rfl, fast.trans (Bool.decide_and ..).symm, fun v => ?_⟩
  rw [mem_stage6Events, rate, Option.getD_some]
  simp

/-- The interval to the due threshold, a sixteenth shorter in FREE-RUN (R91). -/
theorem dueInterval_eq (p : Profile) (env : Surroundings) (f r : Nat) : dueInterval p env f r =
    (p.dueAt * 16 - f) * 86400 / (16 * r) -
      (if env.freeRun then (p.dueAt * 16 - f) * 86400 / (16 * r) / 16 else 0) := by
  unfold dueInterval
  split <;> rfl

theorem dueUpdate_of_crossed {t : Nat} (h : a.dueCrossed = some t) :
    dueUpdate p env arrival a = .prediction t true false := by
  rw [dueUpdate, h]

theorem dueUpdate_of_no_rate (h : a.dueCrossed = none) (hr : a.rate = none ∨ a.rate = some 0) :
    dueUpdate p env arrival a = .removal := by
  rw [dueUpdate, h]
  rcases hr with hr | hr <;> rw [hr]
  cases a.f16 <;> rfl

theorem dueUpdate_of_rate {r f : Nat} (h : a.dueCrossed = none) (hr : a.rate = some r) (h0 : 0 < r)
    (hf : a.f16 = some f) : dueUpdate p env arrival a =
      if dueInterval p env f r ≤ env.horizon then
        .prediction (arrival + dueInterval p env f r) false env.freeRun
      else .removal := by
  rw [dueUpdate, h, hr, hf]
  dsimp only
  rw [if_neg h0.ne']
  split
  · rw [if_neg (by omega)]
  · rw [if_pos (by omega)]

/-! ### A reading's record before the threshold tests (R84 to R88) -/

/-- The record that Stages 4 and 5 leave for the threshold tests. -/
def sampled (p : Profile) (e : Echo) (arrival : Nat) (a : Assigned) : Assigned :=
  stage5 p e (mapFill p e.surf) arrival (stage4 p e.surf a)

theorem activeReading_record : (activeReading p env e clamped arrival a learned).record =
    stage6 p arrival (sampled p e arrival a) := rfl

theorem isCollection_iff {fill f : Nat} (hf : a.f16 = some f) :
    isCollection p fill a = true ↔ fill + p.drop ≤ (f + 8) / 16 := by
  rw [isCollection, hf]
  dsimp only
  rw [Bool.and_eq_true, decide_eq_true_eq, decide_eq_true_eq, fillOf]
  omega

/-- A sample that is a collection restarts F16, the anchor and the rate (R86). -/
theorem sampled_of_collection (h : isCollection p (mapFill p e.surf) a = true) :
    sampled p e arrival a = { stage4 p e.surf a with
      f16 := some (mapFill p e.surf * 16)
      anchor := some { time := arrival, f16 := mapFill p e.surf * 16 }
      rate := none
      dueCrossed := none
      fullCrossed := false
      offset := if seesFloor p e.surf then shortOffset p e.corr a.offset else a.offset } := if_pos h

/-- Any other sample is smoothed, or sets F16 with the anchor (R88, R89). -/
theorem sampled_of_no_collection (h : isCollection p (mapFill p e.surf) a = false) :
    sampled p e arrival a = { stage4 p e.surf a with
      f16 := some (smoothed p (mapFill p e.surf) a.f16)
      anchor := match a.f16 with
        | none => some { time := arrival, f16 := smoothed p (mapFill p e.surf) a.f16 }
        | some _ => a.anchor } := if_neg (by rw [show isCollection p (mapFill p e.surf)
          (stage4 p e.surf a) = false from h]; decide)

/-- Stage 5 keeps what Stage 4 wrote (R84, R85). -/
theorem sampled_stage4 : (sampled p e arrival a).surface = some e.surf ∧
    (sampled p e arrival a).heaped = heapedNext p e.surf := by
  unfold sampled stage5
  split <;> exact ⟨rfl, rfl⟩

/-! ### What a reading in ACTIVE reports (R93, R94) -/

theorem mem_activeReading_details {d : FlagDetail} :
    d ∈ (activeReading p env e clamped arrival a learned).details ↔
      (clamped = true ∧ d = .tempClamped) ∨
      ((sampled p e arrival a).heaped = true ∧ d = .heaped) ∨
      ((isCollection p (mapFill p e.surf) a = true ∧ seesFloor p e.surf = true ∧
        shortClamped p e.corr a.offset = true) ∧ d = .calLimit) := by
  simp only [activeReading, List.flatten_cons, List.flatten_nil, List.append_nil, List.mem_append,
    mem_detailIf, Bool.and_eq_true, and_assoc]
  rfl

theorem mem_activeReading_events {k : WatchClass} {v : Int} :
    (k, v) ∈ (activeReading p env e clamped arrival a learned).events ↔
      (rose a.heaped (sampled p e arrival a).heaped = true ∧ k = .heaped ∧
        v = ((sampled p e arrival a).fillOrZero : Int)) ∨
      (isCollection p (mapFill p e.surf) a = true ∧ k = .collected ∧
        v = ((sampled p e arrival a).fillOrZero : Int)) ∨
      ((isCollection p (mapFill p e.surf) a = true ∧ seesFloor p e.surf = true ∧
        shortClamped p e.corr a.offset = true) ∧ k = .calLimit ∧
        v = shortCorrection p e.corr a.offset) ∨
      (k, v) ∈ stage6Events p arrival (sampled p e arrival a) := by
  simp only [activeReading, List.flatten_cons, List.flatten_nil, List.append_nil, List.mem_append,
    mem_eventIf, Bool.and_eq_true, and_assoc]
  rfl

/-- The events of the threshold tests are those of Stage 6 alone. -/
theorem mem_activeReading_thresholdEvents {k : WatchClass} {v : Int}
    (hk : k = .due ∨ k = .full ∨ k = .fastFill) :
    (k, v) ∈ (activeReading p env e clamped arrival a learned).events ↔
      (k, v) ∈ stage6Events p arrival (sampled p e arrival a) := by
  rw [mem_activeReading_events]
  rcases hk with rfl | rfl | rfl <;> simp

/-! ### A sample that is no collection (R88 to R91) -/

theorem isCollection_eq_false {fill : Nat}
    (h : ∀ f, a.f16 = some f → (f + 8) / 16 < fill + p.drop) : isCollection p fill a = false := by
  cases hf : a.f16 with
  | none => rw [isCollection, hf]
  | some f =>
    rw [← Bool.not_eq_true, isCollection_iff hf, Nat.not_le]
    exact h f hf

/-- What a sample that is no collection leaves for the threshold tests: F16 is set or smoothed to
`new`, the anchor is set with a first F16, and rate, offset and flags stay (R88, R89). -/
structure Assigned.Smoothed (a m : Assigned) (new arrival : Nat) : Prop where
  f16 : m.f16 = some new
  first : a.f16 = none → m.anchor = some { time := arrival, f16 := new }
  later : ∀ f, a.f16 = some f → m.anchor = a.anchor
  rate : m.rate = a.rate
  fastFill : m.fastFill = a.fastFill
  dueCrossed : m.dueCrossed = a.dueCrossed
  fullCrossed : m.fullCrossed = a.fullCrossed
  offset : m.offset = a.offset

theorem smoothed_sampled (h : isCollection p (mapFill p e.surf) a = false) :
    a.Smoothed (sampled p e arrival a) (smoothed p (mapFill p e.surf) a.f16) arrival := by
  rw [sampled_of_no_collection h]
  exact ⟨rfl, fun hf => by rw [hf], fun f hf => by rw [hf], rfl, rfl, rfl, rfl, rfl⟩

namespace Assigned.Smoothed

variable {m : Assigned} {new : Nat}

theorem fillOrZero (h : a.Smoothed m new arrival) : m.fillOrZero = (new + 8) / 16 := by
  rw [Assigned.fillOrZero, h.f16]
  rfl

/-- A first F16 computes no rate and keeps the anchor that was set with it (R89). -/
theorem stage6_first (h : a.Smoothed m new arrival) (hs : 0 < p.minSpan) (hf : a.f16 = none) :
    (stage6 p arrival m).anchor = some { time := arrival, f16 := new } ∧
      (stage6 p arrival m).rate = a.rate ∧ (stage6 p arrival m).fastFill = a.fastFill := by
  obtain ⟨rate, fast⟩ := stage6_of_no_newRate (newRate_at_anchor hs (h.first hf) h.f16)
  exact ⟨movedAnchor_at_anchor (h.first hf) h.f16, rate.trans h.rate, fast.trans h.fastFill⟩

/-- Before the minimum span has passed the rate and the fast fill flag stay (R89). -/
theorem stage6_early (h : a.Smoothed m new arrival) {f : Nat} {k : Anchor} (hf : a.f16 = some f)
    (hk : a.anchor = some k) (hs : arrival - k.time < p.minSpan) :
    (stage6 p arrival m).rate = a.rate ∧ (stage6 p arrival m).fastFill = a.fastFill := by
  obtain ⟨rate, fast⟩ := stage6_of_no_newRate
    ((newRate_eq ((h.later f hf).trans hk) h.f16).trans (if_neg (not_le.2 hs)))
  exact ⟨rate.trans h.rate, fast.trans h.fastFill⟩

/-- The due crossed flag after the threshold test, and its event (R90). -/
theorem stage6_due (h : a.Smoothed m new arrival) :
    (stage6 p arrival m).dueCrossed =
        dueCrossedNext a.dueCrossed p.dueAt ((new + 8) / 16) arrival ∧
      ∀ v, (WatchClass.due, v) ∈ stage6Events p arrival m ↔ a.dueCrossed = none ∧
        p.dueAt ≤ (new + 8) / 16 ∧ v = (((new + 8) / 16 : Nat) : Int) := by
  refine ⟨by rw [← h.dueCrossed, ← h.fillOrZero]; rfl, fun v => ?_⟩
  rw [mem_stage6Events, h.dueCrossed, h.fillOrZero]
  simp

/-- The full crossed flag after the threshold test, and its event (R90). -/
theorem stage6_full (h : a.Smoothed m new arrival) :
    (stage6 p arrival m).fullCrossed = crossedNext a.fullCrossed p.fullAt ((new + 8) / 16) ∧
      ∀ v, (WatchClass.full, v) ∈ stage6Events p arrival m ↔ a.fullCrossed = false ∧
        p.fullAt ≤ (new + 8) / 16 ∧ v = (((new + 8) / 16 : Nat) : Int) := by
  refine ⟨by rw [← h.fullCrossed, ← h.fillOrZero]; rfl, fun v => ?_⟩
  rw [mem_stage6Events, h.fullCrossed, h.fillOrZero]
  simp

end Assigned.Smoothed

/-- Settles O21: the threshold tests on the record that the smoothing leaves. -/
theorem dueUpdateFollowsTheRate : Obligations.DueUpdateFollowsTheRate := by
  refine ⟨fun p env arrival a => ⟨fun t => dueUpdate_of_crossed, dueUpdate_of_no_rate,
    fun r f n h hr h0 hf hn => ?_⟩, fun p env e clamped arrival fill new fillNow a learned c hp
      hfill hnc hc hnew hnow => ?_⟩
  · rw [hn, ← dueInterval_eq]
    exact dueUpdate_of_rate h hr h0 hf
  rw [hfill] at hnc hnew
  have other := isCollection_eq_false hnc
  have h := smoothed_sampled (arrival := arrival) other
  have events := fun k v => mem_activeReading_thresholdEvents (p := p) (env := env) (e := e)
    (clamped := clamped) (arrival := arrival) (a := a) (learned := learned) (k := k) (v := v)
  have record : c.record = stage6 p arrival (sampled p e arrival a) := by
    rw [hc, activeReading_record]
  have due : c.due = dueUpdate p env arrival c.record := by rw [hc]; rfl
  have entry : c.learned = learned := by
    rw [hc]
    exact if_neg (by rw [other]; exact Bool.false_ne_true)
  rw [← hc] at events
  rw [← hnew] at h
  generalize sampled p e arrival a = m at *
  obtain ⟨dueNext, dueEvents⟩ := h.stage6_due (p := p)
  obtain ⟨fullNext, fullEvents⟩ := h.stage6_full (p := p)
  obtain ⟨-, -, hspan⟩ := Profile.limits_of_inRange hp
  rw [due, record, hnow]
  refine ⟨h.f16, h.offset, entry, rfl, h.stage6_first (by omega), fun f k hf hk =>
      ⟨h.stage6_early hf hk, fun hs => ?_, movedAnchor_eq ((h.later f hf).trans hk) h.f16⟩,
    fun h => dueNext.trans (dueCrossedNext_of_le h),
    fun h h' => dueNext.trans (dueCrossedNext_between h h'),
    fun h => dueNext.trans (dueCrossedNext_of_lt h), fun h => fullNext.trans (crossedNext_of_le h),
    fun h h' => fullNext.trans (crossedNext_between h h'),
    fun h => fullNext.trans (crossedNext_of_lt h),
    fun v => (events _ v (.inl rfl)).trans (dueEvents v),
    fun v => (events _ v (.inr (.inl rfl))).trans (fullEvents v)⟩
  obtain ⟨r, rate, value, fast, raised⟩ := stage6_rate ((h.later f hf).trans hk) h.f16 hs
  exact ⟨r, rate, value, fast, fun v =>
    ((events _ v (.inr (.inr rfl))).trans (raised v)).trans (by rw [h.fastFill])⟩

/-! ### A collection (R86, R87) -/

/-- A clamp of the short calibration acts where the offset does not take the whole correction. -/
theorem shortClamped_iff {offset k step : Int} (hk : k = (e.corr : Int) - p.depth - offset)
    (hs : step = max (-8) (min 8 k)) :
    shortOffset p e.corr offset = max (-120) (min 120 (offset + step)) ∧
      (shortClamped p e.corr offset = true ↔
        step ≠ k ∨ shortOffset p e.corr offset ≠ offset + step) := by
  have moved : clampInt (-8) 8 (shortCorrection p e.corr offset) = step := by
    rw [shortCorrection, ← hk, clampInt_eq (by decide), hs]
  refine ⟨by rw [shortOffset, moved, clampInt_eq (by decide)], ?_⟩
  rw [shortClamped, moved, shortCorrection, ← hk, Bool.or_eq_true, decide_eq_true_eq,
    decide_eq_true_eq]

/-- What a collection leaves for the threshold tests: F16 and the anchor start again at the fill,
the rate and the crossed flags are cleared, and the fast fill flag stays (R86, R89). -/
structure Assigned.Restarted (a m : Assigned) (fill arrival : Nat) : Prop where
  f16 : m.f16 = some (fill * 16)
  anchor : m.anchor = some { time := arrival, f16 := fill * 16 }
  rate : m.rate = none
  fastFill : m.fastFill = a.fastFill
  dueCrossed : m.dueCrossed = none
  fullCrossed : m.fullCrossed = false

theorem restarted_sampled (h : isCollection p (mapFill p e.surf) a = true) :
    a.Restarted (sampled p e arrival a) (mapFill p e.surf) arrival := by
  rw [sampled_of_collection h]
  exact ⟨rfl, rfl, rfl, rfl, rfl, rfl⟩

namespace Assigned.Restarted

variable {m : Assigned} {fill : Nat}

theorem fillOrZero (h : a.Restarted m fill arrival) : m.fillOrZero = fill := by
  rw [Assigned.fillOrZero, h.f16]
  show (fill * 16 + 8) / 16 = fill
  omega

/-- No rate is computed and the anchor stays where it was set (R89). -/
theorem stage6_rate (h : a.Restarted m fill arrival) (hs : 0 < p.minSpan) :
    (stage6 p arrival m).anchor = some { time := arrival, f16 := fill * 16 } ∧
      (stage6 p arrival m).rate = none ∧ (stage6 p arrival m).fastFill = a.fastFill := by
  obtain ⟨rate, fast⟩ := stage6_of_no_newRate (newRate_at_anchor hs h.anchor h.f16)
  exact ⟨movedAnchor_at_anchor h.anchor h.f16, rate.trans h.rate, fast.trans h.fastFill⟩

/-- The crossed flags are tested afresh (R86, R90). -/
theorem stage6_crossed (h : a.Restarted m fill arrival) :
    (stage6 p arrival m).dueCrossed = (if p.dueAt ≤ fill then some arrival else none) ∧
      (stage6 p arrival m).fullCrossed = decide (p.fullAt ≤ fill) := by
  rw [← dueCrossedNext_none, ← crossedNext_false, ← h.dueCrossed, ← h.fullCrossed, ← h.fillOrZero]
  exact ⟨rfl, rfl⟩

end Assigned.Restarted

/-- CAL_LIMIT is a detail and an event exactly where a clamp of the short calibration acts (R87). -/
theorem activeReading_calLimit :
    (.calLimit ∈ (activeReading p env e clamped arrival a learned).details ↔
      isCollection p (mapFill p e.surf) a = true ∧ seesFloor p e.surf = true ∧
        shortClamped p e.corr a.offset = true) ∧
    ∀ v, (WatchClass.calLimit, v) ∈ (activeReading p env e clamped arrival a learned).events ↔
      (isCollection p (mapFill p e.surf) a = true ∧ seesFloor p e.surf = true ∧
        shortClamped p e.corr a.offset = true) ∧ v = shortCorrection p e.corr a.offset := by
  refine ⟨by rw [mem_activeReading_details]; simp, fun v => ?_⟩
  rw [mem_activeReading_events, mem_stage6Events]
  simp

/-- The offset and the calibration entry of a reading in ACTIVE (R87). -/
theorem activeReading_calibration :
    (activeReading p env e clamped arrival a learned).record.offset =
      (if isCollection p (mapFill p e.surf) a && seesFloor p e.surf then
        shortOffset p e.corr a.offset else a.offset) ∧
    (activeReading p env e clamped arrival a learned).learned =
      if isCollection p (mapFill p e.surf) a && seesFloor p e.surf then
        some (activeReading p env e clamped arrival a learned).record.offset else learned :=
  ⟨stage5_offset (a := stage4 p e.surf a) _, rfl⟩

/-- What a reading in ACTIVE writes and reports besides a collection: the surface distance, the
heaped flag with its detail and event, and the clamped temperature (R77, R84, R85). -/
theorem activeReading_heaped (hc : c = activeReading p env e clamped arrival a learned) :
    c.record.surface = some e.surf ∧
    c.record.heaped = decide (p.kind = .litter ∧ e.surf < p.mouth) ∧
    (.tempClamped ∈ c.details ↔ clamped = true) ∧
    (.heaped ∈ c.details ↔ c.record.heaped = true) ∧ .blind ∉ c.details ∧
    ∀ v, (WatchClass.heaped, v) ∈ c.events ↔
      a.heaped = false ∧ c.record.heaped = true ∧ v = (reportedFill c.record : Int) := by
  obtain ⟨surface, heaped⟩ := sampled_stage4 (p := p) (e := e) (arrival := arrival) (a := a)
  have flag : c.record.heaped = (sampled p e arrival a).heaped := by rw [hc]; rfl
  have fill : reportedFill c.record = (sampled p e arrival a).fillOrZero := by
    rw [hc, fillOrZero_eq]
    rfl
  rw [flag, fill, hc]
  refine ⟨surface, heaped.trans (Bool.decide_and ..).symm, ?_, ?_, ?_, fun v => ?_⟩
  · rw [mem_activeReading_details]
    simp
  · rw [mem_activeReading_details]
    simp
  · rw [mem_activeReading_details]
    simp
  · rw [mem_activeReading_events, mem_stage6Events, rose_iff]
    simp [and_assoc]

/-- A collection (R86, R87). -/
theorem activeReading_collection (hp : p.inRange = true)
    (h : isCollection p (mapFill p e.surf) a = true)
    (hc : c = activeReading p env e clamped arrival a learned) :
    c.record.f16 = some (mapFill p e.surf * 16) ∧
    c.record.anchor = some { time := arrival, f16 := mapFill p e.surf * 16 } ∧
    c.record.rate = none ∧ c.record.fastFill = a.fastFill ∧
    c.record.dueCrossed = (if p.dueAt ≤ mapFill p e.surf then some arrival else none) ∧
    c.record.fullCrossed = decide (p.fullAt ≤ mapFill p e.surf) ∧
    (WatchClass.collected, (mapFill p e.surf : Int)) ∈ c.events := by
  obtain ⟨-, -, hspan⟩ := Profile.limits_of_inRange hp
  have restarted := restarted_sampled (arrival := arrival) h
  obtain ⟨anchor, rate, fast⟩ := restarted.stage6_rate (p := p) (by omega)
  obtain ⟨due, full⟩ := restarted.stage6_crossed (p := p)
  rw [hc]
  refine ⟨restarted.f16, anchor, rate, fast, due, full, ?_⟩
  rw [mem_activeReading_events, restarted.fillOrZero]
  exact .inr (.inl ⟨h, rfl, rfl⟩)

/-- The short calibration of a collection, which is made where the floor is seen (R87). -/
theorem activeReading_shortCalibration (h : isCollection p (mapFill p e.surf) a = true)
    (hc : c = activeReading p env e clamped arrival a learned) :
    (e.surf < p.depth - 100 → c.record.offset = a.offset ∧ c.learned = learned ∧
      .calLimit ∉ c.details) ∧
    ∀ k step : Int, k = (e.corr : Int) - p.depth - a.offset → step = max (-8) (min 8 k) →
      (p.depth : Int) - 100 ≤ e.surf →
      c.learned = some c.record.offset ∧
      c.record.offset = max (-120) (min 120 (a.offset + step)) ∧
      (.calLimit ∈ c.details ↔ step ≠ k ∨ c.record.offset ≠ a.offset + step) ∧
      (∀ v, (WatchClass.calLimit, v) ∈ c.events ↔
        (step ≠ k ∨ c.record.offset ≠ a.offset + step) ∧ v = k) := by
  obtain ⟨detail, event⟩ := activeReading_calLimit (p := p) (env := env) (e := e)
    (clamped := clamped) (arrival := arrival) (a := a) (learned := learned)
  obtain ⟨offset, entry⟩ := activeReading_calibration (p := p) (env := env) (e := e)
    (clamped := clamped) (arrival := arrival) (a := a) (learned := learned)
  rw [← hc] at detail event offset entry
  rw [h, Bool.true_and] at offset entry
  refine ⟨fun hfar => ?_, fun k step hk hs hnear => ?_⟩
  · have floor : seesFloor p e.surf = false := decide_eq_false (not_le.2 hfar)
    rw [floor] at offset entry detail
    exact ⟨offset, entry, fun hd => Bool.false_ne_true (detail.1 hd).2.1⟩
  · have floor : seesFloor p e.surf = true := decide_eq_true hnear
    obtain ⟨moved, acts⟩ := shortClamped_iff hk hs
    rw [floor, if_pos rfl] at offset entry
    rw [← offset] at moved acts
    have limit : (isCollection p (mapFill p e.surf) a = true ∧ seesFloor p e.surf = true ∧
        shortClamped p e.corr a.offset = true) ↔ step ≠ k ∨ c.record.offset ≠ a.offset + step := by
      rw [← acts]
      exact ⟨fun hl => hl.2.2, fun hl => ⟨h, floor, hl⟩⟩
    refine ⟨entry, moved, detail.trans limit, fun v => (event v).trans ?_⟩
    rw [limit, hk, shortCorrection]

/-- A READING in ACTIVE has its own effect after the events of R38. -/
theorem completesAs_activeReading (hs : a.state = .active) (hk : kindOf payload = some .reading)
    (he : selectActive p a.surface (echoesUsed p a.offset payload) = some e)
    (hc : c = completion p env payload arrival gap a learned) :
    CompletesAs c (activeReading p env e (chosenTemp p (tempOf payload)).2 arrival
      (writtenAs a c.record) learned) := by
  have hs' : (applyCommon p payload arrival a).state = .active := hs
  have he' : selectActive p (applyCommon p payload arrival a).surface
      (echoesUsed p (applyCommon p payload arrival a).offset payload) = some e := he
  have left : leaveSilent learned (applyCommon p payload arrival a) =
      applyCommon p payload arrival a := leaveSilent_of_not_silent (by rw [hs']; decide)
  have written : writtenAs a c.record = applyCommon p payload arrival a := by
    rw [hc, ← writtenAs_completion]
    rfl
  have own : applyKind p env payload arrival (applyCommon p payload arrival a) learned =
      activeReading p env e (chosenTemp p (tempOf payload)).2 arrival
        (applyCommon p payload arrival a) learned := by
    rw [applyKind_of_reading hk, applyReading_of_not_learning (by rw [hs']; decide), he']
  rw [written, hc, completion_eq, left, own]
  refine ⟨?_, _, rfl, fun x => commonEvents_classes⟩
  rw [show decide (a.state = .silent) = false by rw [hs]; rfl]
  rfl

/-- Settles O20: Stages 1 to 3, and what a reading in ACTIVE makes of the echo they select. -/
theorem collectionStartsTheFillAgain : Obligations.CollectionStartsTheFillAgain := by
  refine ⟨chosenTemp_eq, validEcho_eq,
    fun p held es => ⟨selectActive_eq_none, fun e => selectedInActive⟩,
    fun p env payload arrival gap a learned e c => completesAs_activeReading,
    fun p env e clamped arrival a learned c hc => ?_⟩
  obtain ⟨surface, heaped, temp, detail, blind, event⟩ := activeReading_heaped hc
  refine ⟨surface, heaped, temp, detail, blind, event, fun f16 fill hp hf hfill hdrop => ?_⟩
  rw [hfill] at hdrop ⊢
  have h := (isCollection_iff hf).2 hdrop
  obtain ⟨f16, anchor, rate, fast, due, full, collected⟩ := activeReading_collection hp h hc
  obtain ⟨far, near⟩ := activeReading_shortCalibration h hc
  exact ⟨f16, anchor, rate, fast, due, full, collected, far, near⟩

end Sys2Proof.Machine
end

section
/-! PROOFS. The gate sets of the changes and the change that waits (section 6.4, R103), its
application and its timeout (R104 to R107). -/

namespace Sys2Proof.Machine

open Sys2Proof.Statements

variable {s t u : State} {r : Request}

/-! ### Gate sets (section 6.4) -/

theorem State.mem_districtsOfBin {b d : Nat} : d ∈ s.districtsOfBin b ↔ LiesIn s b d := by
  unfold State.districtsOfBin LiesIn
  cases s.assigned b <;> simp [eq_comm]

theorem mem_unionOf {a b : List Nat} {d : Nat} : d ∈ unionOf a b ↔ d ∈ a ∨ d ∈ b := by
  simp only [unionOf, List.mem_append, List.mem_filter, Bool.not_eq_true', List.contains_eq_mem,
    decide_eq_false_iff_not]
  tauto

theorem State.mem_clearDeviceGates {e d : Nat} :
    d ∈ s.clearDeviceGates e ↔ ∃ m, s.device e = some m ∧ LiesIn s m.bin d := by
  unfold State.clearDeviceGates
  cases s.device e <;> simp [State.mem_districtsOfBin]

theorem State.mem_loadDeviceGates {e b d : Nat} : d ∈ s.loadDeviceGates e b ↔
    LiesIn s b d ∨ ∃ m, s.device e = some m ∧ LiesIn s m.bin d := by
  rw [← State.mem_clearDeviceGates, ← State.mem_districtsOfBin, or_comm]
  exact mem_unionOf

/-- The gate set of a request holds the districts of the table of section 6.4. -/
theorem State.mem_gateSet {op : Operation} {d : Nat} (ho : r.operation = some op) :
    d ∈ s.gateSet r ↔ Gated s r d op := by
  rw [State.gateSet, ho]
  cases op with
  | loadPrefix | clearPrefix | loadProfile => exact List.mem_range
  | loadDevice => exact State.mem_loadDeviceGates
  | clearDevice => exact State.mem_clearDeviceGates
  | loadBin => exact mem_unionOf.trans (or_congr State.mem_districtsOfBin List.mem_singleton)
  | retireBin => exact State.mem_districtsOfBin
  | clearDistrict => exact List.mem_singleton
  | _ => exact iff_of_false List.not_mem_nil id

/-- Only a change of the tables gates a district. -/
theorem tableChange_of_mem_gateSet {d : Nat} (hd : d ∈ s.gateSet r) :
    ∃ op ∈ tableChanges, r.operation = some op := by
  cases ho : r.operation with
  | none =>
    rw [State.gateSet, ho] at hd
    cases hd
  | some op =>
    have gated := (State.mem_gateSet ho).1 hd
    refine ⟨op, ?_, rfl⟩
    cases op with
    | loadPrefix | clearPrefix | loadDevice | clearDevice | loadBin | retireBin | clearDistrict
    | loadProfile => decide
    | _ => exact gated.elim

/-! ### A change that waits (R103) -/

theorem Gates.drained_eq_false {g : Gates} {ds : List Nat} {d : Nat} (hd : d ∈ ds)
    (hc : g.count d ≠ 0) : g.drained ds = false := by
  rw [← Bool.not_eq_true, Gates.drained, List.all_eq_true]
  exact fun h => hc (beq_iff_eq.1 (h d hd))

/-- Setting the gates of districts changes gate states alone. -/
theorem Gates.setStates_frame (ds : List Nat) (x : GateState) (g : Gates) :
    g.setStates ds x = { g with states := (g.setStates ds x).states } := by
  unfold Gates.setStates
  induction ds generalizing g with
  | nil => rfl
  | cons d rest ih => exact ih (g.setState x d)

theorem State.setGates_frame (ds : List Nat) (s : State) :
    s.setGates ds = { s with gates := { s.gates with
      states := (s.setGates ds).gates.states
      change := some { districts := ds, since := s.time.localMs } } } := by
  show { s with gates := { s.gates.setStates ds .changing with change := _ } } = _
  rw [Gates.setStates_frame]
  rfl

/-- Settles O31: the command of a change whose districts are not drained sets its gates, by the case
of `carryChange` that waits. -/
theorem changeWaitsForItsDistricts : Obligations.ChangeWaitsForItsDistricts := by
  refine ⟨fun s r op d ho => State.mem_gateSet ho, fun s r d hcan hr hc hd hn => ?_⟩
  obtain ⟨op, hop, ho⟩ := tableChange_of_mem_gateSet hd
  have waits := State.carryChange_waits (apply := applyChange) (r := r) (List.ne_nil_of_mem hd)
    (Gates.drained_eq_false hd hn)
  refine ⟨s.setGates (s.gateSet r), ?_, State.setGates_frame _ s, fun i => ?_⟩
  · rw [exec_change hop ⟨hr, ho, hc⟩, waits]
  · exact Gates.state_setStates (Table.wf_of_canonical hcan.gates) ..

/-! ### What a pending change makes of the tables (R104) -/

theorem tableChange_of_changeFits (hf : s.changeFits r = true) :
    ∃ op ∈ tableChanges, r.operation = some op := by
  unfold State.changeFits at hf
  cases ho : r.operation with
  | none =>
    rw [ho] at hf
    cases hf
  | some op =>
    rw [ho] at hf
    refine ⟨op, ?_, rfl⟩
    cases op with
    | loadPrefix | clearPrefix | loadDevice | clearDevice | loadBin | retireBin | clearDistrict
    | loadProfile => decide
    | _ => cases hf

/-- A change that fits the tables makes of them what its command makes where nothing is in
flight. -/
theorem applyChange_changeMade {op : Operation} (hcan : s.Canonical) (hf : s.changeFits r = true)
    (hop : op ∈ tableChanges) (ho : r.operation = some op) :
    ChangeMade s (applyChange r s).1 r (applyChange r s).2 op := by
  have hd := hcan.devices
  have hr := Table.wf_of_canonical hcan.records
  rw [State.changeFits, ho] at hf
  rw [applyChange, ho]
  cases op with
  | loadPrefix | clearPrefix => exact prefixSet_setPrefix hcan.prefixes _
  | loadDevice => exact applyLoadDevice_deviceSet hd hr
  | clearDevice => exact applyClearDevice_deviceSet hd hr
  | loadBin => exact applyLoadBin_binLoaded hr hcan.calibration
  | retireBin => exact applyRetireBin_binRetired hd hr hcan.calibration
  | clearDistrict => exact applyClearDistrict_districtCleared hd hr hcan.calibration
  | loadProfile =>
    obtain ⟨p, hp⟩ := profile_of_profileFits hf
    exact ⟨p, hp, applyLoadProfile_profileLoaded hr hcan.profiles hp⟩
  | _ => exact absurd hop (by decide)

theorem State.SameTables.changeMade {x : Contents} {op : Operation} (h : u.SameTables t)
    (hm : ChangeMade s u r x op) : ChangeMade s t r x op := by
  cases op with
  | loadPrefix | clearPrefix => exact h.prefixSet hm
  | loadDevice | clearDevice => exact h.deviceSet hm
  | loadBin => exact h.binLoaded hm
  | retireBin => exact h.binRetired hm
  | clearDistrict => exact h.districtCleared hm
  | loadProfile => exact hm.imp fun _ hp => hp.imp_right h.profileLoaded
  | _ => exact hm.elim

/-! ### Application and timeout (R104, R105, R107) -/

/-- What the giving of places leaves: no free place beside a deferred frame of an OPEN district
(R15). -/
theorem State.givePlaces_openDeferred (s : State) :
    16 ≤ s.givePlaces.intake.admission.length ∨ s.givePlaces.openDeferred = none :=
  (grantPlace_eq_none s.givePlaces_stops).imp_right And.left

section Pending

variable {c : PendingChange} {rest : List Request} (hr : s.phase = .running)
  (hc : s.gates.change = some c) (hq : s.management.queue = r :: rest)

include hr hc hq

theorem exec_changeApplication (hd : s.gates.drained c.districts = true) :
    exec .changeApplication s = .next (s.applyPending applyChange c r) := by
  show execChangeApplication s = _
  rw [execChangeApplication, State.whenRunning_of_running hr, hc, hq]
  exact congrArg Host.Outcome.next (if_pos hd)

theorem exec_changeTimeout : exec .changeTimeout s = .next
    (if s.changeExpired c && !s.gates.drained c.districts then
      ((s.reopen c).refuse r .timeout).givePlaces else s) := by
  show execChangeTimeout s = _
  rw [execChangeTimeout, State.whenRunning_of_running hr, hc, hq]

end Pending

/-- Settles O37: the pending change is applied to the tables as they stand, and its command would
make the same of them; a timeout writes no table. -/
theorem pendingChangeIsAppliedOrTimesOut : Obligations.PendingChangeIsAppliedOrTimesOut := by
  intro s c r rest hcan hr hc hq
  have hw := Table.wf_of_canonical hcan.gates
  refine ⟨fun hd => ?_, fun hd => ?_, fun hl hd => ?_⟩
  · have same := (applyChange r s).1.sameTables_reopen (r := r) c .ok (applyChange r s).2
    refine ⟨_, exec_changeApplication hr hc hq hd,
      settled_reopen hw (applyChange_tablesStep r s) c .ok _, same.translation, same.bins,
      same.profiles, same.due, State.givePlaces_openDeferred _, fun hp => ?_⟩
    obtain ⟨r', rest', hq', hf, -⟩ := hp c hc
    cases hq.symm.trans hq'
    obtain ⟨op, hop, ho⟩ := tableChange_of_changeFits hf
    exact ⟨op, ho, same.changeMade (applyChange_changeMade hcan hf hop ho)⟩
  · rw [exec_changeTimeout hr hc hq, hd, Bool.not_true, Bool.and_false,
      if_neg Bool.false_ne_true]
  · have expired : s.changeExpired c = true := decide_eq_true hl
    have same := s.sameTables_reopen (r := r) c .timeout .nothing
    refine ⟨((s.reopen c).refuse r .timeout).givePlaces, ?_,
      settled_reopen hw (.refl s) c .timeout .nothing, same.translation, same.bins,
      same.profiles, same.due, State.givePlaces_openDeferred _⟩
    rw [exec_changeTimeout hr hc hq, expired, hd]
    rfl

end Sys2Proof.Machine
end

section
/-! PROOFS. The hand-overs to the collection-due queue (R113, R115 to R117): where a prediction is
placed, what it evicts and when it is refused, and what a removal takes out. -/

namespace Sys2Proof.Machine

variable {s : State} {e last : DueEntry} {q init : List DueEntry}

/-! ### Where an entry is placed (R113) -/

/-- In a queue `q` with `e` placed, the entries before `e` have smaller keys and those after it
larger ones. -/
def PlacedIn (e : DueEntry) (q placed : List DueEntry) : Prop :=
  ∃ pre post, q = pre ++ post ∧ placed = pre ++ e :: post ∧
    (∀ x ∈ pre, x.before e = true) ∧ ∀ x ∈ post, e.before x = true

/-- An entry of a bin that an ordered queue does not hold is placed at its key's position. -/
theorem placedIn_insertDue (ordered : q.Pairwise fun x y => x.before y = true)
    (others : ∀ x ∈ q, x.bin ≠ e.bin) : PlacedIn e q (insertDue e q) := by
  induction q with
  | nil => exact ⟨[], [], rfl, rfl, by simp, by simp⟩
  | cons y rest ih =>
    obtain ⟨after, ordered'⟩ := List.pairwise_cons.1 ordered
    obtain ⟨other, others'⟩ := List.forall_mem_cons.1 others
    by_cases lower : e.before y = true
    · refine ⟨[], y :: rest, rfl, if_pos lower, by simp, List.forall_mem_cons.2 ⟨lower, ?_⟩⟩
      exact fun x hx => DueEntry.before_trans lower (after x hx)
    · obtain ⟨pre, post, hq, hplaced, hpre, hpost⟩ := ih ordered' others'
      refine ⟨y :: pre, post, congrArg (y :: ·) hq, ?_, List.forall_mem_cons.2 ⟨?_, hpre⟩, hpost⟩
      · exact (if_neg lower).trans (congrArg (y :: ·) hplaced)
      · exact DueEntry.before_total other.symm (Bool.eq_false_iff.2 lower)

/-! ### The three ends of a prediction (R115, R116) -/

theorem State.handPrediction_of_room (h : (dropDue e.bin s.due).length < dueSize) :
    s.handPrediction e = s.placeDue e (dropDue e.bin s.due) := if_pos h

theorem State.handPrediction_of_full (hq : dropDue e.bin s.due = init ++ [last])
    (hn : dueSize ≤ (dropDue e.bin s.due).length) : s.handPrediction e =
      if e.before last then (s.setUnqueued last.bin true).placeDue e init
      else State.setUnqueued e.bin true { s with due := init ++ [last] } := by
  rw [State.handPrediction, if_neg (Nat.not_lt.2 hn), hq, List.getLast?_concat,
    List.dropLast_concat]

/-- A prediction reaches the due queue and the bin records alone. -/
theorem State.handPrediction_records_frame (e : DueEntry) (s : State) : s.handPrediction e =
    { s with due := (s.handPrediction e).due
             bins := { s.bins with records := (s.handPrediction e).bins.records } } := by
  rcases State.handPrediction_cases e s with ⟨-, h⟩ | ⟨_, -, -, -, h⟩ | ⟨_, -, -, -, h⟩ <;>
    rw [h] <;> rfl

theorem State.unqueued_placeDue (h : s.bins.records.wf = true) (e : DueEntry) (q : List DueEntry)
    (b : Nat) : ((s.placeDue e q).record b).unqueued =
      if b = e.bin then false else (s.record b).unqueued :=
  State.unqueued_setUnqueued h ..

/-- Settles O26: in a queue with room, or without its evicted last entry, the prediction stands at
its key's place; otherwise the queue without the bin's old entry is left. -/
theorem predictionIsPlacedEvictsOrIsRefused : Obligations.PredictionIsPlacedEvictsOrIsRefused := by
  intro s e q hcan hq ordered _
  have hr := Table.wf_of_canonical hcan.records
  obtain rfl : q = dropDue e.bin s.due := hq
  have others : ∀ x ∈ dropDue e.bin s.due, x.bin ≠ e.bin := fun x hx => (mem_dropDue.1 hx).2
  refine ⟨State.handPrediction_records_frame e s, fun b => ⟨State.assigned_handPrediction hr e b,
    (State.KeepsAssignments.handPrediction e).mapped hr b⟩, fun room => ?_,
    fun init last hsplit full => ?_⟩
  · rw [State.handPrediction_of_room room]
    exact ⟨placedIn_insertDue ordered others, State.unqueued_placeDue hr _ _⟩
  · rw [State.handPrediction_of_full hsplit full.ge]
    rw [hsplit] at ordered others
    refine ⟨fun lower => ?_, fun higher => ?_⟩
    · rw [if_pos lower]
      refine ⟨placedIn_insertDue (List.pairwise_append.1 ordered).1
        fun x hx => others x (List.mem_append_left _ hx), fun b => ?_⟩
      rw [State.unqueued_placeDue (Table.wf_set hr ..), State.unqueued_setUnqueued hr]
    · rw [higher, if_neg Bool.false_ne_true]
      exact ⟨hsplit.symm, fun b => State.unqueued_setUnqueued hr ..⟩

/-! ### Removal (R117) -/

/-- A bin with no entry has none to take out. -/
theorem dropDue_of_forall_ne {b : Nat} (h : ∀ x ∈ q, x.bin ≠ b) : dropDue b q = q :=
  List.filter_eq_self.2 fun x hx => bne_iff_ne.2 (h x hx)

/-- Settles O27: a removal is the queue without the bin's entry and its unqueued flag cleared. -/
theorem removalTakesTheBinsEntryOut : Obligations.RemovalTakesTheBinsEntryOut := by
  intro s b hcan
  refine ⟨rfl, dropDue_of_forall_ne, rfl, rfl, fun i => ?_⟩
  rw [State.record_handRemoval (Table.wf_of_canonical hcan.records)]
  split
  · next hi => rw [hi]
  · rfl

end Sys2Proof.Machine
end

section
/-! PROOFS. The due list (R124 to R127): the selection, its two arrangements, and the cutting of the
items into frames. -/

namespace Sys2Proof.Machine

open Sys2Proof.Statements

variable {s : State} {r : Request} {ds : List Nat} {items : List DueItem}

/-! ### Selection and arrangement (R125, R126) -/

theorem State.matching_eq (s : State) (ds : List Nat) :
    s.matching ds = s.due.filter fun e => decide (e.district ∈ ds) :=
  List.filter_congr fun _ _ => List.contains_eq_mem ..

theorem State.selected_eq (s : State) (ds : List Nat) (most : Nat) (withSilent : Bool) :
    s.selected ds most withSilent = (s.due.filter fun e =>
      decide (e.district ∈ ds) && (withSilent || !e.silent)).take most := by
  rw [State.selected, State.matching_eq, List.filter_filter]
  simp only [Bool.and_comm]

theorem State.district_of_mem_selected {most : Nat} {withSilent : Bool} {e : DueEntry}
    (he : e ∈ s.selected ds most withSilent) : e.district ∈ ds := by
  rw [State.selected_eq] at he
  have kept := List.of_mem_filter (List.mem_of_mem_take he)
  exact of_decide_eq_true (Bool.and_eq_true_iff.1 kept).1

theorem countP_district_lt_succ (n : Nat) (es : List DueEntry) :
    (es.countP fun e => decide (e.district < n + 1)) =
      (es.countP fun e => decide (e.district < n)) + es.countP fun e => e.district == n := by
  induction es with
  | nil => rfl
  | cons e rest ih =>
    simp only [List.countP_cons, ih, decide_eq_true_eq, beq_iff_eq]
    split_ifs <;> omega

/-- The groups of the districts below `n` hold the entries of those districts, each once. -/
theorem length_districtGroups (n : Nat) (es : List DueEntry) :
    ((List.range n).flatMap fun d => es.filter fun e => e.district == d).length =
      es.countP fun e => decide (e.district < n) := by
  induction n with
  | zero => simp
  | succ n ih =>
    rw [List.range_succ, List.flatMap_append, List.length_append, ih, List.flatMap_singleton,
      ← List.countP_eq_length_filter, countP_district_lt_succ]

/-- Grouping by district loses no entry (R126). -/
theorem length_arranged {es : List DueEntry} (h : ∀ e ∈ es, e.district < districtCount)
    (round : Bool) : (arranged round es).length = es.length := by
  cases round with
  | false => rfl
  | true =>
    exact (length_districtGroups districtCount es).trans
      (List.countP_eq_length.2 fun e he => decide_eq_true (h e he))

/-! ### Frames (R127) -/

/-- Consecutive pieces of `k` join to the list again. -/
theorem flatMap_pieces {α : Type} (k n : Nat) (l : List α) :
    ((List.range n).flatMap fun i => (l.drop (k * i)).take k) = l.take (k * n) := by
  induction n with
  | zero => simp
  | succ n ih =>
    rw [List.range_succ, List.flatMap_append, ih, List.flatMap_singleton, Nat.mul_succ,
      List.take_add]

theorem le_dueFrameCount (n : Nat) : n ≤ dueFrameSize * dueFrameCount n := by
  simp only [dueFrameSize, dueFrameCount]
  omega

/-- Every frame but the last is full. -/
theorem full_of_lt_dueFrameCount {n i : Nat} (h : i + 1 < dueFrameCount n) :
    dueFrameSize * i + dueFrameSize ≤ n := by
  simp only [dueFrameSize, dueFrameCount] at h ⊢
  omega

/-- The items of a due list, in the order they are sent. -/
def State.dueItems (s : State) (ds : List Nat) (most : Nat) (round withSilent : Bool) :
    List DueItem :=
  (arranged round (s.selected ds most withSilent)).map (dueItem s.time)

/-- The assigned bins of a district set whose unqueued flag is set (R127). -/
def State.unqueuedCount (s : State) (ds : List Nat) : Nat :=
  (s.bins.records.entries.filter fun x =>
    x.2.unqueued && x.2.assigned.any fun a => decide (a.district ∈ ds)).length

/-- Frame `i` of a due list of these items. -/
def State.dueFrame (s : State) (ds : List Nat) (items : List DueItem) (i : Nat) : DueFrame where
  number := i
  frames := dueFrameCount items.length
  quality := s.time.quality
  selected := items.length
  matching := (s.matching ds).length
  unqueued := s.unqueuedCount ds
  items := (items.drop (dueFrameSize * i)).take dueFrameSize

/-- All frames of a due list of these items. -/
def State.dueFrameList (s : State) (ds : List Nat) (items : List DueItem) : List DueFrame :=
  (List.range (dueFrameCount items.length)).map (s.dueFrame ds items)

/-- The contents of a due-list response are the frames of its items. -/
theorem State.dueFrames_eq (s : State) (ds : List Nat) (most : Nat) (round withSilent : Bool) :
    s.dueFrames ds most round withSilent =
      (s.dueFrameList ds (s.dueItems ds most round withSilent)).map Contents.dueList := by
  rw [State.dueFrameList, List.map_map]
  refine List.map_congr_left fun i _ => ?_
  simp only [Function.comp, State.dueFrame, State.dueItems, State.unqueuedCount]
  congr 4
  funext x
  cases x.2.assigned <;> simp

theorem State.flatMap_items_dueFrameList (s : State) (ds : List Nat) (items : List DueItem) :
    (s.dueFrameList ds items).flatMap (·.items) = items := by
  rw [State.dueFrameList, List.flatMap_map]
  exact (flatMap_pieces dueFrameSize _ items).trans (List.take_of_length_le (le_dueFrameCount _))

theorem State.length_dueFrameList (s : State) (ds : List Nat) (items : List DueItem) :
    (s.dueFrameList ds items).length = dueFrameCount items.length := by
  simp [State.dueFrameList]

/-- The frame at place `i` of a due list is frame `i`, and it is one of their number. -/
theorem State.getElem?_dueFrameList {i : Nat} {f : DueFrame} :
    (s.dueFrameList ds items)[i]? = some f ↔
      i < dueFrameCount items.length ∧ s.dueFrame ds items i = f := by
  simp [State.dueFrameList, List.getElem?_eq_some_iff]

theorem State.length_items_dueFrame_le (s : State) (ds : List Nat) (items : List DueItem)
    (i : Nat) :
    (s.dueFrame ds items i).items.length ≤ dueFrameSize := List.length_take_le ..

theorem State.length_items_dueFrame {i : Nat} (h : i + 1 < dueFrameCount items.length) :
    (s.dueFrame ds items i).items.length = dueFrameSize := by
  have full := full_of_lt_dueFrameCount h
  rw [State.dueFrame, List.length_take, List.length_drop]
  omega

/-! ### The request (R123) -/

theorem checkRequestDueList_of_passes (hp : Passes s r .requestDueList) :
    checkRequestDueList s r = none := by
  obtain ⟨-, ho, hc⟩ := hp
  rwa [headCheck, ho] at hc

/-- A REQUEST DUE LIST that passes its checks names districts alone. -/
theorem districts_lt_of_checkRequestDueList (h : checkRequestDueList s r = none) :
    ∀ d ∈ r.districts, d < districtCount := by
  simp only [checkRequestDueList, State.readChecks, firstFailure_eq_none, List.forall_mem_cons] at h
  obtain ⟨-, -, -, args, -⟩ := h
  simp only [argumentCheck, Bool.and_eq_true, List.all_eq_true, decide_eq_true_eq] at args
  obtain ⟨⟨⟨⟨-, districts⟩, -⟩, -⟩, -⟩ := args
  exact districts

theorem exec_requestDueList (hp : Passes s r .requestDueList) : exec .requestDueList s =
    .next (answered s r .ok
      (s.dueFrames r.districts (r.arg16 0) (decide (r.arg8 2 = 1)) (r.option 3))) := by
  have hc := checkRequestDueList_of_passes hp
  obtain ⟨hr, ho, -⟩ := hp
  exact congrArg Host.Outcome.next (State.serve_passed hr (isOp_iff.2 ho) hc)

/-- Settles O39: the response is the frames of the selection as arranged. -/
theorem dueListHoldsTheSoonestEntries : Obligations.DueListHoldsTheSoonestEntries := by
  intro s r chosen hp hchosen
  have hc := checkRequestDueList_of_passes hp
  obtain rfl : chosen = s.selected r.districts (r.arg16 0) (r.option 3) :=
    hchosen.trans (State.selected_eq ..).symm
  have length : (s.dueItems r.districts (r.arg16 0) (decide (r.arg8 2 = 1)) (r.option 3)).length =
      (s.selected r.districts (r.arg16 0) (r.option 3)).length :=
    (List.length_map _).trans <| length_arranged (fun e he =>
      districts_lt_of_checkRequestDueList hc _ (State.district_of_mem_selected he)) _
  refine ⟨_, (exec_requestDueList hp).trans (by rw [State.dueFrames_eq]), ?_, ?_, fun i f hf => ?_⟩
  · rw [State.length_dueFrameList, length]
    rfl
  · rw [State.flatMap_items_dueFrameList, State.dueItems, arranged]
    simp only [decide_eq_true_eq]
    rfl
  · obtain ⟨-, rfl⟩ := State.getElem?_dueFrameList.1 hf
    rw [State.length_dueFrameList]
    exact ⟨rfl, rfl, rfl, length, congrArg List.length (State.matching_eq ..), rfl,
      State.length_items_dueFrame_le .., State.length_items_dueFrame⟩

end Sys2Proof.Machine
end

section
/-! PROOFS. The watch unit (R132 to R137): what a write of a mask or a counter leaves of each of the
others, what the unit makes of one event, and what it makes of a group. -/

namespace Sys2Proof.Machine

variable {w v : Watch} {t : Timebase} {c : Bool} {e : Event} {row cls r k : Nat}

/-! ### Places of the masks and counters (R132) -/

theorem WatchClass.num_lt (x : WatchClass) : x.num < classCount := by
  cases x <;> decide

/-- A place of the masks and of the counters is that of one row and class. -/
theorem watchPlace_eq_iff (hk : k < classCount) (hc : cls < classCount) :
    r * classCount + k = row * classCount + cls ↔ r = row ∧ k = cls := by
  simp only [classCount] at *
  omega

theorem Watch.counter_setCounter (hw : w.counters.wf = true) (hc : cls < classCount)
    (hk : k < classCount) (n : Nat) : (w.setCounter row cls n).counter r k =
      if r = row ∧ k = cls then n else w.counter r k :=
  (Table.read_write hw ..).trans (if_congr (watchPlace_eq_iff hk hc) rfl rfl)

theorem Watch.mode_setMode (hw : w.masks.wf = true) (hc : cls < classCount)
    (hk : k < classCount) (m : MaskMode) : (w.setMode row cls m).mode r k =
      if r = row ∧ k = cls then m else w.mode r k := by
  by_cases h : r = row ∧ k = cls
  · obtain ⟨rfl, rfl⟩ := h
    rw [if_pos ⟨rfl, rfl⟩]
    exact (Table.read_write hw ..).trans (if_pos rfl)
  · rw [if_neg h]
    exact Table.read_write_other _ _ _ _ (mt (watchPlace_eq_iff hk hc).1 h)

theorem Watch.mode_congr (h : v.masks = w.masks) : v.mode = w.mode := by
  funext r k
  rw [Watch.mode, h]
  rfl

theorem Watch.notifies_congr (h : v.masks = w.masks) : v.notifies = w.notifies := by
  funext e
  rw [Watch.notifies, Watch.mode_congr h]
  rfl

/-! ### A counter rises (R134) -/

theorem Watch.countUp_notices (w : Watch) (row cls : Nat) :
    (w.countUp row cls).notices = w.notices := by
  unfold Watch.countUp
  split <;> rfl

theorem Watch.countUp_counters_wf (h : w.counters.wf = true) (row cls : Nat) :
    (w.countUp row cls).counters.wf = true := by
  unfold Watch.countUp
  split
  · exact Table.wf_set h ..
  · exact h

theorem Watch.counter_countUp (hw : w.counters.wf = true) (hc : cls < classCount)
    (hk : k < classCount) : (w.countUp row cls).counter r k =
      if r = row ∧ k = cls ∧ w.counter r k < counterMax then w.counter r k + 1
      else w.counter r k := by
  unfold Watch.countUp
  by_cases room : w.counter row cls < counterMax
  · rw [if_pos room, Watch.counter_setCounter hw hc hk]
    by_cases here : r = row ∧ k = cls
    · obtain ⟨rfl, rfl⟩ := here
      rw [if_pos ⟨rfl, rfl⟩, if_pos ⟨rfl, rfl, room⟩]
    · rw [if_neg here, if_neg fun ⟨hr, hk, _⟩ => here ⟨hr, hk⟩]
  · rw [if_neg room, if_neg]
    rintro ⟨rfl, rfl, lt⟩
    exact room lt

/-! ### One event (R133, R136) -/

/-- Does the watch unit classify an event as COUNT? -/
def Watch.counts (w : Watch) (e : Event) : Bool := w.mode e.row e.cls.num == .count

/-- Does an event of a row and class raise a counter: is it COUNT, or NOTIFY with the notice queue
full? -/
def Watch.tallies (w : Watch) (row cls : Nat) : Bool :=
  w.mode row cls == .count || (w.mode row cls == .notify && decide (noticeSize ≤ w.notices.length))

theorem Watch.tallies_iff : w.tallies row cls = true ↔ w.mode row cls = .count ∨
    (w.mode row cls = .notify ∧ noticeSize ≤ w.notices.length) := by
  simp [Watch.tallies]

/-- Everything the watch unit can make of an event: it ignores it, counts it, or places a record. -/
theorem Watch.take_cases (t : Timebase) (c : Bool) (w : Watch) (e : Event) :
    (w.mode e.row e.cls.num = .off ∧ w.take t c e = w) ∨
    (w.tallies e.row e.cls.num = true ∧ w.take t c e = w.countUp e.row e.cls.num) ∨
    (w.mode e.row e.cls.num = .notify ∧ w.notices.length < noticeSize ∧
      w.take t c e = { w with notices := w.notices ++ [noticeOf t c e] }) := by
  rw [Watch.tallies_iff, Watch.take]
  cases hm : w.mode e.row e.cls.num with
  | off => exact .inl ⟨rfl, rfl⟩
  | count => exact .inr (.inl ⟨.inl rfl, rfl⟩)
  | notify =>
    by_cases room : w.notices.length < noticeSize
    · exact .inr (.inr ⟨rfl, room, if_pos room⟩)
    · exact .inr (.inl ⟨.inr ⟨rfl, Nat.le_of_not_lt room⟩, if_neg room⟩)

/-- An OFF event changes nothing. -/
theorem Watch.take_of_off (h : w.mode e.row e.cls.num = .off) : w.take t c e = w := by
  rw [Watch.take, h]

/-- An OFF event raises no counter. -/
theorem Watch.tallies_of_off (h : w.mode row cls = .off) : w.tallies row cls = false := by
  simp [Watch.tallies, h]

/-- A NOTIFY event that finds a place raises no counter. -/
theorem Watch.tallies_of_room (h : w.mode row cls = .notify)
    (room : w.notices.length < noticeSize) : w.tallies row cls = false := by
  simp [Watch.tallies, h, room]

theorem Watch.take_counters_wf (h : w.counters.wf = true) (t : Timebase) (c : Bool) (e : Event) :
    (w.take t c e).counters.wf = true := by
  rcases Watch.take_cases t c w e with ⟨-, he⟩ | ⟨-, he⟩ | ⟨-, -, he⟩ <;> rw [he]
  · exact h
  · exact Watch.countUp_counters_wf h ..
  · exact h

/-- One counter after one event: the counter of the event's row and class rises, below its limit,
where the event raises one. -/
theorem Watch.counter_take (hw : w.counters.wf = true) (hk : k < classCount) :
    (w.take t c e).counter r k =
      if r = e.row ∧ k = e.cls.num ∧ w.counter r k < counterMax ∧ w.tallies r k = true then
        w.counter r k + 1 else w.counter r k := by
  have kept (h : w.tallies e.row e.cls.num = false) :
      ¬ (r = e.row ∧ k = e.cls.num ∧ w.counter r k < counterMax ∧ w.tallies r k = true) := by
    rintro ⟨rfl, rfl, -, tallies⟩
    exact Bool.false_ne_true (h.symm.trans tallies)
  rcases Watch.take_cases t c w e with ⟨off, he⟩ | ⟨tallies, he⟩ | ⟨notify, room, he⟩ <;> rw [he]
  · rw [if_neg (kept (Watch.tallies_of_off off))]
  · rw [Watch.counter_countUp hw (WatchClass.num_lt _) hk]
    refine if_congr ⟨?_, fun ⟨hr, hc, lt, _⟩ => ⟨hr, hc, lt⟩⟩ rfl rfl
    rintro ⟨rfl, rfl, lt⟩
    exact ⟨rfl, rfl, lt, tallies⟩
  · rw [if_neg (kept (Watch.tallies_of_room notify room))]
    rfl

/-! ### A group (R136, R137) -/

/-- The events of a group that raise a counter: the COUNT events, and the NOTIFY events that find no
place. -/
def Watch.counted (w : Watch) (es : List Event) : List Event :=
  es.filter w.counts ++ (es.filter w.notifies).drop (noticeSize - w.notices.length)

/-- Is an event of a row and class? -/
def Event.isOf (row cls : Nat) (e : Event) : Bool := decide (e.row = row ∧ e.cls.num = cls)

theorem Event.isOf_iff : e.isOf row cls = true ↔ e.row = row ∧ e.cls.num = cls := decide_eq_true_iff

theorem Watch.counts_congr (h : v.masks = w.masks) : v.counts = w.counts := by
  funext e
  rw [Watch.counts, Watch.mode_congr h]
  rfl

/-- One of the places of the notice queue is the next record's. -/
theorem Watch.places_of_room (room : w.notices.length < noticeSize) :
    noticeSize - w.notices.length = noticeSize - (w.notices.length + 1) + 1 := by
  omega

/-- The records of a group: those of its NOTIFY events while places remain. -/
theorem Watch.notices_foldl_take (t : Timebase) (c : Bool) (w : Watch) (es : List Event) :
    (es.foldl (Watch.take t c) w).notices = w.notices ++
      ((es.filter w.notifies).take (noticeSize - w.notices.length)).map (noticeOf t c) := by
  induction es generalizing w with
  | nil => simp
  | cons e rest ih =>
    rw [List.foldl_cons, ih, Watch.notifies_congr (Watch.take_masks ..)]
    rcases Watch.take_cases t c w e with ⟨off, he⟩ | ⟨tallies, he⟩ | ⟨notify, room, he⟩ <;> rw [he]
    · have passed : w.notifies e = false := by simp [Watch.notifies, off]
      simp [passed]
    · rw [Watch.countUp_notices]
      rcases Watch.tallies_iff.1 tallies with count | ⟨-, full⟩
      · have passed : w.notifies e = false := by simp [Watch.notifies, count]
        simp [passed]
      · simp [Nat.sub_eq_zero_of_le full]
    · have joins : w.notifies e = true := by simp [Watch.notifies, notify]
      simp [joins, Watch.places_of_room room]

/-- The counted events of a group are its first event, if it raises a counter, and those of the rest
as the first leaves the watch unit. -/
theorem Watch.countP_counted_cons (t : Timebase) (c : Bool) (w : Watch) (e : Event)
    (rest : List Event) (p : Event → Bool) :
    (w.counted (e :: rest)).countP p = ((w.take t c e).counted rest).countP p +
      if w.tallies e.row e.cls.num = true ∧ p e = true then 1 else 0 := by
  simp only [Watch.counted, List.countP_append, Watch.notifies_congr (Watch.take_masks t c w e),
    Watch.counts_congr (Watch.take_masks t c w e)]
  rcases Watch.take_cases t c w e with ⟨off, he⟩ | ⟨tallies, he⟩ | ⟨notify, room, he⟩ <;> rw [he]
  · simp [Watch.notifies, Watch.counts, Watch.tallies, off]
  · rw [Watch.countUp_notices]
    rcases Watch.tallies_iff.1 tallies with count | ⟨notify, full⟩
    · simp [Watch.notifies, Watch.counts, Watch.tallies, count, List.countP_cons]
      omega
    · simp [Watch.notifies, Watch.counts, Watch.tallies, notify, full, List.countP_cons,
        Nat.sub_eq_zero_of_le full]
      omega
  · have joins : w.notifies e = true := by simp [Watch.notifies, notify]
    simp [joins, Watch.places_of_room room, Watch.counts, notify, Watch.tallies_of_room notify room]

/-- One counter after one event of a group. -/
theorem Watch.counter_take_eq_min (hw : w.counters.wf = true) (hk : k < classCount)
    (hle : w.counter r k ≤ counterMax) : (w.take t c e).counter r k = min counterMax
      (w.counter r k + if w.tallies e.row e.cls.num = true ∧ e.isOf r k = true then 1 else 0) := by
  simp only [Watch.counter_take hw hk, Event.isOf_iff]
  by_cases here : e.row = r ∧ e.cls.num = k
  · obtain ⟨rfl, rfl⟩ := here
    cases w.tallies e.row e.cls.num with
    | false => simp [hle]
    | true =>
      simp only [true_and, and_true, if_true]
      split <;> omega
  · rw [if_neg fun ⟨hr, hc, _⟩ => here ⟨hr.symm, hc.symm⟩, if_neg fun ⟨_, h⟩ => here h]
    omega

/-- One counter after a group. -/
theorem Watch.counter_foldl_take (hw : w.counters.wf = true) (hk : k < classCount)
    (hle : w.counter r k ≤ counterMax) (es : List Event) :
    (es.foldl (Watch.take t c) w).counter r k =
      min counterMax (w.counter r k + (w.counted es).countP (Event.isOf r k)) := by
  induction es generalizing w with
  | nil => simp [Watch.counted, hle]
  | cons e rest ih =>
    have first := Watch.counter_take_eq_min (t := t) (c := c) (e := e) hw hk hle
    rw [List.foldl_cons, ih (Watch.take_counters_wf hw ..) (by omega), first,
      Watch.countP_counted_cons t c]
    omega

/-! ### Events raised -/

/-- A single event is taken as a group of one. -/
theorem State.raise_eq (s : State) (e : Event) :
    ∃ c, s.raise e = { s with watch := s.watch.take s.time c e } := ⟨_, rfl⟩

/-- Settles O25: one event is ignored, counted or placed, and a group is taken event by event. -/
theorem eventsAreIgnoredCountedOrQueued : Obligations.EventsAreIgnoredCountedOrQueued := by
  refine ⟨fun s e hcan => ?_, fun s es =>
    ⟨Watch.notices_foldl_take .., Watch.takeGroup_masks .., fun hcan row cls hc hle =>
      Watch.counter_foldl_take (Table.wf_of_canonical hcan.counters) hc hle es⟩⟩
  obtain ⟨c, he⟩ := State.raise_eq s e
  rw [he]
  refine ⟨?_, fun off => ?_, fun row cls hc => ?_⟩
  · exact congrArg (fun w => { s with watch := w }) (Watch.eq_of_masks (Watch.take_masks ..))
  · rw [Watch.take_of_off off]
  · refine (Watch.counter_take (Table.wf_of_canonical hcan.counters) hc).trans ?_
    exact if_congr (by rw [Watch.tallies_iff]; rfl) rfl rfl

end Sys2Proof.Machine
end

section
/-! PROOFS. The checks before the arguments, in their order (R162, R163, R164, R167). -/

namespace Sys2Proof.Machine

open Sys2Proof.Statements

variable {s : State} {r : Request} {op : Operation} {rows : List Nat} {x : Result}

/-! ### The first failure of a list of checks -/

theorem firstFailure_failed (rest : List (Bool × Result)) (x : Result) :
    firstFailure ((false, x) :: rest) = some x := rfl

theorem firstFailure_passed (rest : List (Bool × Result)) (x : Result) :
    firstFailure ((true, x) :: rest) = firstFailure rest := rfl

/-- The first failure is the result of one of the checks. -/
theorem mem_of_firstFailure {l : List (Bool × Result)} (h : firstFailure l = some x) :
    ∃ c ∈ l, c.2 = x := by
  induction l with
  | nil => cases h
  | cons c rest ih =>
    obtain ⟨_ | _, y⟩ := c
    · exact ⟨_, List.mem_cons_self .., Option.some.inj h⟩
    · obtain ⟨c, hm, hx⟩ := ih h
      exact ⟨c, List.mem_cons_of_mem _ hm, hx⟩

/-! ### What each check finds -/

theorem State.viewCheck_failed
    (h : ∃ row ∈ rows, (s.authorityOf r.credential).view.getLsbD row = false) :
    s.viewCheck r rows = (false, .authDenied) := by
  simpa [State.viewCheck] using h

theorem State.viewCheck_passed
    (h : ∀ row ∈ rows, (s.authorityOf r.credential).view.getLsbD row = true) :
    s.viewCheck r rows = (true, .authDenied) := by
  simpa [State.viewCheck] using h

theorem State.changeCheck_failed
    (h : ∃ row ∈ rows, (s.authorityOf r.credential).change.getLsbD row = false) :
    s.changeCheck r rows = (false, .authDenied) := by
  simpa [State.changeCheck] using h

theorem State.changeCheck_passed
    (h : ∀ row ∈ rows, (s.authorityOf r.credential).change.getLsbD row = true) :
    s.changeCheck r rows = (true, .authDenied) := by
  simpa [State.changeCheck] using h

theorem State.protectionCheck_failed
    (h : ∃ row ∈ rows, s.inForce.protection.covers row = true) :
    s.protectionCheck rows = (false, .rowProtected) := by
  simpa [State.protectionCheck] using h

/-! ### The checks of each operation (R162) -/

/-- Checks 3 and 4 of a request: credential 0, or the VIEW set, or the CHANGE set and the
protection; READ COUNTERS with the reset option is a read and a change at once (R142, R164, R167). -/
def State.rightsChecks (s : State) (r : Request) (op : Operation) : List (Bool × Result) :=
  if isOwners op then [ownerCheck r]
  else if isChange op then
    [s.changeCheck r (rowsConcerned s r op), s.protectionCheck (rowsConcerned s r op)]
  else if op == .readCounters && isCountersReset r then
    [s.viewCheck r (rowsConcerned s r op), s.changeCheck r (rowsConcerned s r op),
      s.protectionCheck (rowsConcerned s r op)]
  else [s.viewCheck r (rowsConcerned s r op)]

theorem State.rightsChecks_owner (ho : isOwners op = true) :
    s.rightsChecks r op = [ownerCheck r] := if_pos ho

theorem State.rightsChecks_change (hc : isChange op = true) : s.rightsChecks r op =
    [s.changeCheck r (rowsConcerned s r op), s.protectionCheck (rowsConcerned s r op)] := by
  have notOwners : isOwners op ≠ true := by
    cases op with
    | loadAuthority | storeConfig | restart => exact absurd hc (by decide)
    | _ => decide
  rw [State.rightsChecks, if_neg notOwners, if_pos hc]

theorem State.rightsChecks_reset (h : isCountersReset r = true) :
    s.rightsChecks r .readCounters = [s.viewCheck r (rowsConcerned s r .readCounters),
      s.changeCheck r (rowsConcerned s r .readCounters),
      s.protectionCheck (rowsConcerned s r .readCounters)] := if_pos h

theorem State.rightsChecks_read (ho : isOwners op = false) (hc : isChange op = false)
    (hr : op = .readCounters → isCountersReset r = false) :
    s.rightsChecks r op = [s.viewCheck r (rowsConcerned s r op)] := by
  have noReset : (op == .readCounters && isCountersReset r) = false := by
    cases op with
    | readCounters => exact hr rfl
    | _ => rfl
  rw [State.rightsChecks, ho, hc, noReset]
  rfl

/-- The checks of check 5 answer neither AUTH_DENIED nor PROTECTED. -/
def ArgumentChecks (l : List (Bool × Result)) : Prop :=
  ∀ c ∈ l, c.2 ≠ .authDenied ∧ c.2 ≠ .rowProtected

theorem argumentChecks_singleton (b : Bool) : ArgumentChecks [argumentCheck b] := by
  simp [ArgumentChecks, argumentCheck]

theorem argumentChecks_pair (b c : Bool) (hd : x ≠ .authDenied) (hp : x ≠ .rowProtected) :
    ArgumentChecks [argumentCheck b, (c, x)] := by
  simp [ArgumentChecks, argumentCheck, hd, hp]

/-- The rows of a row selector (R181). -/
theorem selectorRows_eq (n : Nat) : selectorRows n =
    if n < 17 then [n] else if n = 0xFF then List.range 17 else [16] := by
  unfold selectorRows selectedRows rowCount
  split_ifs <;> rfl

/-- A READ DEVICE that names a sensor id concerns row 16 (R31). -/
theorem rowsConcerned_bySensor (h : isBySensor r = true) :
    rowsConcerned s r .readDevice = [unplacedRow] := by
  have form : r.arg8 0 = 1 := of_decide_eq_true (Bool.and_eq_true_iff.1 h).2
  simp [rowsConcerned, form, unplacedRow]

/-- The checks of a request of a known operation: the length, the credential, the rights and the
protection, and then the arguments. -/
theorem headCheck_eq (ho : r.operation = some op) : ∃ args, ArgumentChecks args ∧
    headCheck s r =
      firstFailure (formatCheck r op :: s.credentialCheck r :: (s.rightsChecks r op ++ args)) := by
  rw [headCheck, ho]
  cases op with
  | readDevice =>
    by_cases form : isBySensor r = true
    · rw [if_pos form, State.rightsChecks, rowsConcerned_bySensor form]
      exact ⟨[argumentCheck _], argumentChecks_singleton _, rfl⟩
    · rw [if_neg form]
      exact ⟨[argumentCheck _], argumentChecks_singleton _, rfl⟩
  | readCounters =>
    cases reset : isCountersReset r with
    | true =>
      rw [State.rightsChecks_reset reset]
      exact ⟨[argumentCheck _], argumentChecks_singleton _, rfl⟩
    | false =>
      rw [State.rightsChecks_read rfl rfl fun _ => reset]
      exact ⟨[argumentCheck _], argumentChecks_singleton _, rfl⟩
  | loadWatchMask | resetCounters =>
    exact ⟨[argumentCheck _], argumentChecks_singleton _,
      congrArg (s.changeChecks r _ · _ []) (selectorRows_eq _)⟩
  | loadDevice | loadBin | readProfile =>
    exact ⟨[argumentCheck _, _], argumentChecks_pair _ _ (by decide) (by decide), rfl⟩
  | _ => exact ⟨[argumentCheck _], argumentChecks_singleton _, rfl⟩

/-! ### The order (R162) -/

theorem headCheck_of_length (ho : r.operation = some op) (hl : r.lengthFits op = false) :
    headCheck s r = some .badArgument := by
  obtain ⟨args, -, hc⟩ := headCheck_eq (s := s) ho
  rw [hc, formatCheck, hl, firstFailure_failed]

theorem headCheck_of_credential (ho : r.operation = some op) (hl : r.lengthFits op = true)
    (hn : s.inForce.settings.credentials ≤ r.credential) : headCheck s r = some .authRange := by
  obtain ⟨args, -, hc⟩ := headCheck_eq (s := s) ho
  rw [hc, formatCheck, hl, firstFailure_passed, State.credentialCheck,
    decide_eq_false (Nat.not_lt.2 hn), firstFailure_failed]

/-- With a fitting length and a credential in use, the rights are checked next, then the protection,
then the arguments. -/
theorem headCheck_of_rights (ho : r.operation = some op) (hl : r.lengthFits op = true)
    (hn : r.credential < s.inForce.settings.credentials) : ∃ args, ArgumentChecks args ∧
      headCheck s r = firstFailure (s.rightsChecks r op ++ args) := by
  obtain ⟨args, ha, hc⟩ := headCheck_eq (s := s) ho
  exact ⟨args, ha, by rw [hc, formatCheck, hl, firstFailure_passed, State.credentialCheck,
    decide_eq_true hn, firstFailure_passed]⟩

/-- The checks of a change on its rows (R164, R167): every row in the CHANGE set, then no row
protected. -/
theorem firstFailure_change (rest : List (Bool × Result)) :
    ((∃ row ∈ rows, (s.authorityOf r.credential).change.getLsbD row = false) →
      firstFailure (s.changeCheck r rows :: s.protectionCheck rows :: rest) = some .authDenied) ∧
    ((∀ row ∈ rows, (s.authorityOf r.credential).change.getLsbD row = true) →
      (∃ row ∈ rows, s.inForce.protection.covers row = true) →
      firstFailure (s.changeCheck r rows :: s.protectionCheck rows :: rest) =
        some .rowProtected) := by
  refine ⟨fun denied => ?_, fun allowed covered => ?_⟩
  · rw [State.changeCheck_failed denied, firstFailure_failed]
  · rw [State.changeCheck_passed allowed, firstFailure_passed,
      State.protectionCheck_failed covered, firstFailure_failed]

/-- A READ COUNTERS of its length whose option is set is one with the reset option (R142). -/
theorem isCountersReset_eq_true (ho : r.operation = some .readCounters)
    (hl : r.lengthFits .readCounters = true) (hb : r.arg8 1 % 2 = 1) :
    isCountersReset r = true := by
  have set : r.option 1 = true := decide_eq_true hb
  rw [isCountersReset, isOp_iff.2 ho, hl, set]
  rfl

/-- Settles O30: every request is checked in one order, and its operation decides which rights are
asked for. -/
theorem checksAreMadeInTheirOrder : Obligations.ChecksAreMadeInTheirOrder := by
  intro s r op ho
  refine ⟨headCheck_of_length ho, headCheck_of_credential ho, fun hl hn => ?_⟩
  obtain ⟨args, hargs, hc⟩ := headCheck_of_rights ho hl hn
  rw [hc]
  refine ⟨fun owners other => ?_, fun notOwners notChange denied => ?_, fun change => ?_,
    fun counters option viewed => ?_, fun notChange notOwners option viewed => ?_⟩
  · rw [State.rightsChecks_owner owners, ownerCheck, decide_eq_false other]
    rfl
  · by_cases reset : op = .readCounters ∧ isCountersReset r = true
    · obtain ⟨rfl, reset⟩ := reset
      rw [State.rightsChecks_reset reset, State.viewCheck_failed denied]
      rfl
    · rw [State.rightsChecks_read notOwners notChange fun h =>
        Bool.eq_false_iff.2 fun h' => reset ⟨h, h'⟩, State.viewCheck_failed denied]
      rfl
  · rw [State.rightsChecks_change change]
    exact firstFailure_change args
  · subst counters
    rw [State.rightsChecks_reset (isCountersReset_eq_true ho hl option),
      State.viewCheck_passed viewed]
    exact firstFailure_change args
  · rw [State.rightsChecks_read notOwners notChange fun h => isCountersReset_eq_false (option h),
      State.viewCheck_passed viewed, List.singleton_append, firstFailure_passed]
    refine ⟨fun h => ?_, fun h => ?_⟩ <;> obtain ⟨c, hm, hx⟩ := mem_of_firstFailure h
    · exact (hargs c hm).1 hx
    · exact (hargs c hm).2 hx

end Sys2Proof.Machine
end

section
/-! PROOFS. LOAD WATCH MASK, RESET COUNTERS, and READ COUNTERS with the reset option (R140, R142,
R143): the selection, and that it alone changes. -/

namespace Sys2Proof.Machine

open Sys2Proof.Statements

variable {s : State} {r : Request} {w : Watch} {m : MaskMode} {row cls n : Nat}
  {sel : List (Nat × Nat)}

/-! ### Masks and counters of a selection -/

/-- Setting masks changes the masks alone. -/
theorem Watch.setModes_frame (sel : List (Nat × Nat)) (m : MaskMode) (w : Watch) :
    w.setModes sel m = { w with masks := (w.setModes sel m).masks } := by
  unfold Watch.setModes
  induction sel generalizing w with
  | nil => rfl
  | cons x rest ih => exact ih (w.setMode x.1 x.2 m)

/-- Clearing counters changes the counters alone. -/
theorem Watch.clearCounters_frame (sel : List (Nat × Nat)) (w : Watch) :
    w.clearCounters sel = { w with counters := (w.clearCounters sel).counters } := by
  unfold Watch.clearCounters
  induction sel generalizing w with
  | nil => rfl
  | cons x rest ih => exact ih (w.setCounter x.1 x.2 0)

/-- Exactly the masks of the selection take the mode. -/
theorem Watch.mode_setModes (hw : w.masks.wf = true) (hsel : ∀ x ∈ sel, x.2 < classCount)
    (hc : cls < classCount) :
    (w.setModes sel m).mode row cls = if (row, cls) ∈ sel then m else w.mode row cls := by
  unfold Watch.setModes
  induction sel generalizing w with
  | nil => rfl
  | cons x rest ih =>
    obtain ⟨hx, hrest⟩ := List.forall_mem_cons.1 hsel
    refine (ih (w := w.setMode x.1 x.2 m) (Table.wf_set hw ..) hrest).trans ?_
    rw [Watch.mode_setMode hw hx hc]
    by_cases here : row = x.1 ∧ cls = x.2 <;> by_cases later : (row, cls) ∈ rest <;>
      simp [here, later, Prod.ext_iff]

/-- Exactly the counters of the selection become 0. -/
theorem Watch.counter_clearCounters (hw : w.counters.wf = true)
    (hsel : ∀ x ∈ sel, x.2 < classCount) (hc : cls < classCount) :
    (w.clearCounters sel).counter row cls =
      if (row, cls) ∈ sel then 0 else w.counter row cls := by
  unfold Watch.clearCounters
  induction sel generalizing w with
  | nil => rfl
  | cons x rest ih =>
    obtain ⟨hx, hrest⟩ := List.forall_mem_cons.1 hsel
    refine (ih (w := w.setCounter x.1 x.2 0) (Table.wf_set hw ..) hrest).trans ?_
    rw [Watch.counter_setCounter hw hx hc]
    by_cases here : row = x.1 ∧ cls = x.2 <;> by_cases later : (row, cls) ∈ rest <;>
      simp [here, later, Prod.ext_iff]

/-! ### Selections (R181) -/

theorem cls_lt_of_mem_selection {x : Nat × Nat} (hx : x ∈ r.selection) : x.2 < classCount := by
  simp only [Request.selection, classesOf, List.mem_flatMap, List.mem_map, List.mem_filter,
    List.mem_range] at hx
  obtain ⟨_, -, cls, ⟨lt, -⟩, rfl⟩ := hx
  exact lt

theorem mem_selection (hc : cls < classCount) : (row, cls) ∈ r.selection ↔
    row ∈ selectorRows (r.arg8 0) ∧ (r.set16 1).getLsbD cls = true := by
  simp [Request.selection, classesOf, hc]

theorem cls_lt_of_mem_rowSelection {x : Nat × Nat} (hx : x ∈ rowSelection n) :
    x.2 < classCount := by
  obtain ⟨cls, lt, rfl⟩ := List.mem_map.1 hx
  exact List.mem_range.1 lt

theorem mem_rowSelection (hc : cls < classCount) : (row, cls) ∈ rowSelection n ↔ row = n := by
  simp [rowSelection, hc, eq_comm]

/-- How many of the selected masks meet a test. -/
theorem length_filter_selection (r : Request) (p : Nat → Nat → Bool) :
    (r.selection.filter fun x => p x.1 x.2).length =
      ((selectorRows (r.arg8 0)).flatMap fun row => (List.range classCount).filter fun cls =>
        (r.set16 1).getLsbD cls && p row cls).length := by
  simp [Request.selection, classesOf, List.filter_flatMap, List.length_flatMap, List.filter_map,
    List.filter_filter, Function.comp_def, Bool.and_comm]

/-- The rows of a selector that names some: one row, or all. -/
theorem eq_selectorRows {rows : List Nat} (h : (selectedRows n).isSome = true)
    (one : n ≤ 16 → rows = [n]) (all : n = 0xFF → rows = List.range 17) :
    rows = selectorRows n := by
  rw [selectorRows_eq]
  by_cases hn : n < 17
  · rw [if_pos hn, one (Nat.le_of_lt_succ hn)]
  · by_cases ha : n = 0xFF
    · rw [if_neg hn, if_pos ha, all ha]
    · simp [selectedRows, rowCount, hn, ha] at h

/-! ### The three commands (R140, R143) -/

/-- A LOAD WATCH MASK that passes its checks names some rows. -/
theorem selectedRows_of_passes_loadWatchMask (hp : Passes s r .loadWatchMask) :
    (selectedRows (r.arg8 0)).isSome = true := by
  obtain ⟨-, ho, hc⟩ := hp
  rw [headCheck, ho] at hc
  have fits := (args_of_changeChecks hc).1
  simp only [Bool.and_eq_true] at fits
  obtain ⟨⟨rows, -⟩, -⟩ := fits
  exact rows

/-- A RESET COUNTERS that passes its checks names some rows. -/
theorem selectedRows_of_passes_resetCounters (hp : Passes s r .resetCounters) :
    (selectedRows (r.arg8 0)).isSome = true := by
  obtain ⟨-, ho, hc⟩ := hp
  rw [headCheck, ho] at hc
  obtain ⟨rows, -⟩ := Bool.and_eq_true_iff.1 (args_of_changeChecks hc).1
  exact rows

/-- The state with the head answered OK and another watch unit. -/
def answeredWith (s : State) (r : Request) (c : Contents) (w : Watch) : State :=
  { answered s r .ok [c] with watch := w }

theorem exec_loadWatchMask (hp : Passes s r .loadWatchMask)
    (hm : MaskMode.ofCode (r.arg8 3) = some m) : exec .loadWatchMask s = .next (answeredWith s r
      (.masksChanged (r.selection.filter fun x => s.watch.mode x.1 x.2 != m).length)
      (s.watch.setModes r.selection m)) := by
  obtain ⟨hr, ho, hc⟩ := hp
  rw [headCheck, ho] at hc
  refine congrArg Host.Outcome.next ((State.serve_passed hr (isOp_iff.2 ho) hc).trans ?_)
  rw [hm]
  rfl

theorem exec_resetCounters (hp : Passes s r .resetCounters) : exec .resetCounters s =
    .next (answeredWith s r (.countersWere (r.clearedValues s.watch))
      (s.watch.clearCounters r.selection)) := by
  obtain ⟨hr, ho, hc⟩ := hp
  rw [headCheck, ho] at hc
  exact congrArg Host.Outcome.next (State.serve_passed hr (isOp_iff.2 ho) hc)

/-- A request that passes its checks has the length of its operation (R162). -/
theorem lengthFits_of_passes {op : Operation} (hp : Passes s r op) : r.lengthFits op = true := by
  obtain ⟨-, ho, hc⟩ := hp
  by_contra short
  rw [headCheck_of_length ho (Bool.eq_false_iff.2 short)] at hc
  cases hc

theorem exec_readCountersReset (hp : Passes s r .readCounters) (hb : r.arg8 1 % 2 = 1) :
    exec .readCountersReset s = .next (answeredWith s r (reportCounters r s)
      (s.watch.clearCounters (rowSelection (r.arg8 0)))) := by
  have reset := isCountersReset_eq_true hp.2.1 (lengthFits_of_passes hp) hb
  obtain ⟨hr, ho, hc⟩ := hp
  rw [headCheck, ho] at hc
  dsimp only at hc
  rw [if_pos reset] at hc
  exact congrArg Host.Outcome.next (State.serve_passed (r := r) hr reset hc)

/-- Settles O40: each command writes the places of its selection, and no place outside it. -/
theorem selectedMasksAndCountersChange : Obligations.SelectedMasksAndCountersChange := by
  intro s r rows hcan one all
  have masks := Table.wf_of_canonical hcan.masks
  have counters := Table.wf_of_canonical hcan.counters
  refine ⟨fun m hp hm => ?_, fun hp => ?_, fun hp hb => ?_⟩
  · obtain rfl := eq_selectorRows (selectedRows_of_passes_loadWatchMask hp) one all
    refine ⟨_, (r.selection.filter fun x => s.watch.mode x.1 x.2 != m).length,
      exec_loadWatchMask hp hm, ?_, ?_, fun row cls hc => ?_⟩
    · exact congrArg (answeredWith s r _) (Watch.setModes_frame ..)
    · exact length_filter_selection r fun row cls => s.watch.mode row cls != m
    · exact (Watch.mode_setModes masks (fun _ => cls_lt_of_mem_selection) hc).trans
        (if_congr (mem_selection hc) rfl rfl)
  · obtain rfl := eq_selectorRows (selectedRows_of_passes_resetCounters hp) one all
    refine ⟨_, r.clearedValues s.watch, exec_resetCounters hp, ?_, fun h => ?_, fun h => ?_,
      fun row cls hc => ?_⟩
    · exact congrArg (answeredWith s r _) (Watch.clearCounters_frame ..)
    · exact if_pos (Nat.lt_succ_of_le h)
    · exact if_neg (by rw [h]; decide)
    · exact (Watch.counter_clearCounters counters (fun _ => cls_lt_of_mem_selection) hc).trans
        (if_congr (mem_selection hc) rfl rfl)
  · refine ⟨_, exec_readCountersReset hp hb, ?_, fun row cls hc => ?_⟩
    · exact congrArg (answeredWith s r _) (Watch.clearCounters_frame ..)
    · exact (Watch.counter_clearCounters counters (fun _ => cls_lt_of_mem_rowSelection) hc).trans
        (if_congr (mem_rowSelection hc) rfl rfl)

end Sys2Proof.Machine
end

section
/-! PROOFS. The planner link's frames (R146 to R148): what the receiver reads of the bytes that a
frame writes, and the envelope checks in their order. -/

namespace Sys2Proof.Machine

variable {kind : LinkKind} {body bytes : List Byte}

/-! ### Fields of a structure, written and read back -/

theorem byteAt_cons_zero (b : Byte) (p : List Byte) : byteAt (b :: p) 0 = b.toNat := rfl

theorem byteAt_cons_succ (b : Byte) (p : List Byte) (i : Nat) :
    byteAt (b :: p) (i + 1) = byteAt p i := rfl

theorem word16At_cons_succ (b : Byte) (p : List Byte) (i : Nat) :
    word16At (b :: p) (i + 1) = word16At p i := rfl

theorem byte_toNat (n : Nat) : (byte n).toNat = n % 256 := BitVec.toNat_ofNat ..

theorem word16At_append_right (p q : List Byte) : word16At (p ++ q) p.length = word16At q 0 := by
  induction p with
  | nil => rfl
  | cons b rest ih => exact (word16At_cons_succ b (rest ++ q) rest.length).trans ih

theorem word16At_bytes16 (n : Nat) (q : List Byte) : word16At (bytes16 n ++ q) 0 = n % 65536 := by
  have parts : word16At (bytes16 n ++ q) 0 = (byte (n / 256)).toNat * 256 + (byte n).toNat := rfl
  rw [parts, byte_toNat, byte_toNat]
  omega

theorem word32At_bytes32 (n : Nat) : word32At (bytes32 n) 0 = n % 4294967296 := by
  have parts : word32At (bytes32 n) 0 =
      ((byte (n / 16777216)).toNat * 256 + (byte (n / 65536)).toNat) * 65536 +
        ((byte (n / 256)).toNat * 256 + (byte n).toNat) := rfl
  simp only [parts, byte_toNat]
  omega

/-! ### The envelope of a frame (R146) -/

theorem length_linkHead (kind : LinkKind) (body : List Byte) :
    (linkHead kind body).length = body.length + 3 := by
  simp [linkHead, bytes16]

theorem length_linkFrame (kind : LinkKind) (body : List Byte) :
    (linkFrame kind body).length = body.length + 5 := by
  simp [linkFrame, length_linkHead, bytes16]

/-- The bytes under the check are all but the last two. -/
theorem take_linkFrame (kind : LinkKind) (body : List Byte) :
    (linkFrame kind body).take (body.length + 3) = linkHead kind body := by
  rw [← length_linkHead kind body]
  exact List.take_left

theorem crcField_linkFrame (kind : LinkKind) (body : List Byte) :
    word16At (linkFrame kind body) (body.length + 3) = (crc16 (linkHead kind body)).toNat := by
  rw [← length_linkHead kind body, linkFrame, word16At_append_right,
    ← List.append_nil (bytes16 _), word16At_bytes16]
  exact Nat.mod_eq_of_lt (BitVec.isLt _)

theorem lengthField_linkFrame (kind : LinkKind) (hl : body.length ≤ 1024) :
    word16At (linkFrame kind body) 1 = body.length := by
  have field : word16At (linkFrame kind body) 1 = body.length % 65536 :=
    word16At_bytes16 body.length (body ++ bytes16 (crc16 (linkHead kind body)).toNat)
  rw [field]
  omega

theorem kindField_linkFrame (kind : LinkKind) (body : List Byte) :
    byteAt (linkFrame kind body) 0 = kind.code := by
  have field : byteAt (linkFrame kind body) 0 = kind.code % 256 := byte_toNat kind.code
  rw [field]
  cases kind <;> rfl

theorem linkBody_linkFrame (kind : LinkKind) (body : List Byte) :
    linkBody (linkFrame kind body) = body := by
  have tail : (linkFrame kind body).drop 3 =
      body ++ bytes16 (crc16 (linkHead kind body)).toNat := rfl
  rw [linkBody, length_linkFrame, tail]
  exact List.take_left

/-- A frame of an inbound kind with a body of the kind's length passes every check (R147). -/
theorem linkCheck_linkFrame (hk : LinkKind.inbound kind.code = some kind)
    (hl : body.length ≤ 1024) (hf : bodyFits kind body = true) :
    linkCheck (linkFrame kind body) = .inr (kind, body) := by
  have long : ¬ body.length + 5 < 5 := by omega
  have check : body.length + 5 - 2 = body.length + 3 := rfl
  simp only [linkCheck, length_linkFrame, long, check, crcField_linkFrame, take_linkFrame,
    lengthField_linkFrame kind hl, Nat.add_sub_cancel, kindField_linkFrame, hk,
    linkBody_linkFrame, hf, ne_eq, not_true_eq_false, if_false, if_true]

/-! ### The receiver (R147, R148) -/

theorem frameCommand_of_linkFault (h : (linkFault bytes).isSome = true) :
    frameCommand bytes = .inboundFrameDiscarded bytes := by
  unfold linkFault at h
  unfold frameCommand
  cases hc : linkCheck bytes with
  | inl d => rfl
  | inr passed =>
    rw [hc] at h
    cases h

/-- Settles O4: the frame of a command passes the receiver's checks, and the receiver hands its body
on by its kind. -/
theorem inboundFramesReadBack : Obligations.InboundFramesReadBack := by
  intro c bytes hw hc
  cases c with
  | managementFrame body =>
    cases hc
    have passes : linkCheck (linkFrame .management body) = .inr (.management, body) :=
      linkCheck_linkFrame rfl (of_decide_eq_true hw) rfl
    rw [frameCommand, passes]
  | timeBeacon v =>
    cases hc
    have passes : linkCheck (linkFrame .time (bytes32 v.toNat)) = .inr (.time, bytes32 v.toNat) :=
      linkCheck_linkFrame rfl (by simp [bytes32]) rfl
    have value : word32At (bytes32 v.toNat) 0 = v.toNat :=
      (word32At_bytes32 v.toNat).trans (Nat.mod_eq_of_lt v.isLt)
    rw [frameCommand, passes]
    simp [value]
  | pause =>
    cases hc
    have passes : linkCheck (linkFrame .pause []) = .inr (.pause, []) :=
      linkCheck_linkFrame rfl (Nat.zero_le _) rfl
    rw [frameCommand, passes]
  | go =>
    cases hc
    have passes : linkCheck (linkFrame .go []) = .inr (.go, []) :=
      linkCheck_linkFrame rfl (Nat.zero_le _) rfl
    rw [frameCommand, passes]
  | inboundFrameDiscarded bytes =>
    cases hc
    exact frameCommand_of_linkFault hw
  | _ => cases hc

/-! ### The checks in their order (R147) -/

theorem next_whenRunning {f : State → State} {t : State} (hr : s.phase = .running) (h : f s = t) :
    (.next (s.whenRunning f) : Host.Outcome State Fault Refusal) = .next t :=
  congrArg Host.Outcome.next ((State.whenRunning_of_running hr).trans h)

/-- The kinds that the inbound codes name; every other code names none. -/
theorem LinkKind.inbound_cases (n : Nat) :
    (n = 0x10 ∧ inbound n = some .management) ∨ (n = 0x11 ∧ inbound n = some .time) ∨
    (n = 0x12 ∧ inbound n = some .pause) ∨ (n = 0x13 ∧ inbound n = some .go) ∨
    ((n < 0x10 ∨ 0x13 < n) ∧ inbound n = none) := by
  unfold inbound
  by_cases h0 : n = 0x10
  · exact .inl ⟨h0, if_pos h0⟩
  · by_cases h1 : n = 0x11
    · exact .inr (.inl ⟨h1, by simp [h1]⟩)
    · by_cases h2 : n = 0x12
      · exact .inr (.inr (.inl ⟨h2, by simp [h2]⟩))
      · by_cases h3 : n = 0x13
        · exact .inr (.inr (.inr (.inl ⟨h3, by simp [h3]⟩)))
        · exact .inr (.inr (.inr (.inr ⟨by omega, by simp [h0, h1, h2, h3]⟩)))

theorem length_linkBody (h : ¬ bytes.length < 5) :
    (linkBody bytes).length = bytes.length - 5 := by
  rw [linkBody, List.length_take, List.length_drop]
  omega

theorem bodyFits_time_iff (h : ¬ bytes.length < 5) :
    bodyFits .time (linkBody bytes) = true ↔ bytes.length = 9 := by
  rw [bodyFits, beq_iff_eq, length_linkBody h]
  omega

theorem isEmpty_linkBody (h : ¬ bytes.length < 5) :
    (linkBody bytes).isEmpty = decide (bytes.length = 5) := by
  rw [Bool.eq_iff_iff, List.isEmpty_iff_length_eq_zero, length_linkBody h, decide_eq_true_iff]
  omega

/-- The five checks of R147 in their order, the last two by the kind byte. -/
theorem linkFault_eq (bytes : List Byte) : linkFault bytes =
    if bytes.length < 5 then some .short
    else if word16At bytes (bytes.length - 2) ≠ (crc16 (bytes.take (bytes.length - 2))).toNat then
      some .check
    else if word16At bytes 1 ≠ bytes.length - 5 then some .length
    else if byteAt bytes 0 < 0x10 ∨ 0x13 < byteAt bytes 0 then some .kind
    else if byteAt bytes 0 = 0x11 ∧ bytes.length ≠ 9 then some .length
    else if 0x12 ≤ byteAt bytes 0 ∧ bytes.length ≠ 5 then some .length
    else none := by
  unfold linkFault linkCheck
  by_cases short : bytes.length < 5
  · simp only [short, if_true]
  · by_cases check : word16At bytes (bytes.length - 2) =
        (crc16 (bytes.take (bytes.length - 2))).toNat
    · by_cases length : word16At bytes 1 = bytes.length - 5
      · simp only [short, check, length, ne_eq, not_true_eq_false, if_false]
        rcases LinkKind.inbound_cases (byteAt bytes 0) with
          ⟨hn, hk⟩ | ⟨hn, hk⟩ | ⟨hn, hk⟩ | ⟨hn, hk⟩ | ⟨hn, hk⟩ <;> rw [hk]
        · simp [hn, bodyFits]
        · by_cases h9 : bytes.length = 9 <;> simp [hn, bodyFits_time_iff short, h9]
        · by_cases h5 : bytes.length = 5 <;> simp [hn, bodyFits, isEmpty_linkBody short, h5]
        · by_cases h5 : bytes.length = 5 <;> simp [hn, bodyFits, isEmpty_linkBody short, h5]
        · simp [hn]
      · simp only [short, check, length, ne_eq, not_true_eq_false, not_false_eq_true, if_false,
          if_true]
    · simp only [short, check, ne_eq, not_false_eq_true, if_false, if_true]

/-- Settles O5: the checks in their order, the numbers of the details, and the event that a running
part raises. -/
theorem discardedFrameRaisesMalformed : Obligations.DiscardedFrameRaisesMalformed := by
  refine ⟨linkFault_eq, rfl, fun bytes d s hr hd => next_whenRunning hr ?_⟩
  rw [hd]
  rfl

end Sys2Proof.Machine
end

section
/-! PROOFS. The report composer (R149 to R156): the arbiter and its grants, PAUSE and GO, the summary
timer, and the TIME beacon with its loss (R172, R173). -/

namespace Sys2Proof.Machine

variable {s : State}

/-! ### The arbiter (R150) -/

theorem State.choose_of_not_open (h : s.linkOpen = false) : s.choose = none := by
  simp [State.choose, h]

/-- A paused link is granted nothing (R149). -/
theorem State.choose_of_paused (h : s.composer.paused = true) : s.choose = none :=
  State.choose_of_not_open (by simp [State.linkOpen, h])

/-- Nothing is granted while a frame is being sent (R150). -/
theorem State.choose_of_sending (h : s.composer.sending ≠ none) : s.choose = none :=
  State.choose_of_not_open (by simp [State.linkOpen, h])

theorem State.arbitrate_of_none (h : s.choose = none) : s.arbitrate = s := by
  simp [State.arbitrate, h]

theorem State.arbitrate_of_choose {c : Candidate} (h : s.choose = some c) :
    s.arbitrate = s.grant c := by
  simp [State.arbitrate, h]

theorem find?_cons_eq_ite {α : Type} (p : α → Bool) (a : α) (l : List α) :
    (a :: l).find? p = if p a then some a else l.find? p := by
  cases h : p a <;> simp [h]

/-- On an open link the candidates are taken in their rank order (R150). -/
theorem State.choose_of_open (hp : s.composer.paused = false) (hs : s.composer.sending = none) :
    s.choose =
      if s.candidate .start then some .start
      else if s.candidate .response then some .response
      else if s.candidate .forced then some .forced
      else if s.candidate .notice then some .notice
      else if s.candidate .scheduled then some .scheduled
      else if s.candidate .catchUp then some .catchUp
      else none := by
  have hopen : s.linkOpen = true := by simp [State.linkOpen, hp, hs]
  simp only [State.choose, hopen, if_true, ranks, find?_cons_eq_ite, List.find?_nil]

theorem State.holdPassed_iff : s.holdPassed = true ↔
    (s.watch.notices.head?.any fun n =>
      decide (n.raisedAt + s.inForce.settings.noticeHold ≤ s.time.localMs)) = true := by
  unfold State.holdPassed
  cases s.watch.notices <;> rfl

theorem State.noticesReady_iff : s.noticesReady = true ↔ 8 ≤ s.watch.notices.length ∨
    (s.watch.notices.head?.any fun n =>
      decide (n.raisedAt + s.inForce.settings.noticeHold ≤ s.time.localMs)) = true := by
  rw [State.noticesReady, Bool.or_eq_true, decide_eq_true_iff, State.holdPassed_iff]
  rfl

/-- Settles O43: the rank order on an open link, each candidate in the words of its own rule. -/
theorem arbiterTakesTheFirstEligibleCandidate :
    Obligations.ArbiterTakesTheFirstEligibleCandidate := by
  refine fun s => ⟨fun h => h.elim State.choose_of_paused State.choose_of_sending, fun hp hs => ?_⟩
  have response : s.candidate .response = true ↔ s.composer.responses ≠ [] := by
    simp [State.candidate]
  have forced : s.candidate .forced = true ↔ s.composer.pendingSummary = some .forced :=
    beq_iff_eq
  have scheduled : s.candidate .scheduled = true ↔
      s.composer.pendingSummary = some .scheduled := beq_iff_eq
  have catchUp : s.candidate .catchUp = true ↔ 0 < s.composer.debt := decide_eq_true_iff
  have notice : s.candidate .notice = true ↔ _ := State.noticesReady_iff
  rw [State.choose_of_open hp hs]
  simp only [response, forced, notice, scheduled, catchUp]
  rfl

/-! ### Grants (R151 to R156) -/

theorem State.grantIf_of_choose {c : Candidate} {cs : List Candidate} (h : s.choose = some c)
    (hm : cs.contains c = true) : s.grantIf cs = s.grant c := by
  simp only [State.grantIf, h, hm, if_true]

theorem State.grantStart_eq (s : State) : s.grantStart = { s with
    composer := { s.composer with
      startPending := false
      sending := some (.start
        { cause := s.inForce.cause, status := s.inForce.status
          protection := s.inForce.protection, family := 0x8140, revision := 2 }) } } := rfl

theorem nextResponses_cons {x : Response} {rest : List Response} {first : Contents}
    {more : List Contents} (h : x.frames = first :: more) :
    nextResponses (x :: rest) = if more = [] then rest else { x with frames := more } :: rest := by
  cases more <;> simp [nextResponses, h]

theorem State.grantResponse_eq {x : Response} {rest : List Response} {first : Contents}
    {more : List Contents} (hx : s.composer.responses = x :: rest) (hf : x.frames = first :: more) :
    s.grantResponse = { s with composer := { s.composer with
      responses := if more = [] then rest else { x with frames := more } :: rest
      sending := some (.response x.tag x.op x.result first) } } := by
  simp only [State.grantResponse, hx, nextResponses_cons hf, hf, List.headD_cons, State.send]

/-- The notice queue's oldest records leave in one frame (R152). -/
theorem State.grantNotice_eq (s : State) : s.grantNotice = { s with
    watch := { s.watch with notices := s.watch.notices.drop 8 }
    composer := { s.composer with sending := some (.notice (s.watch.notices.take 8)) } } := rfl

theorem State.grantSummary_eq (kind : SummaryKind) (debt : Nat) (pending : Option PendingSummary)
    (s : State) : s.grantSummary kind debt pending = { s with composer := { s.composer with
      debt := debt
      pendingSummary := pending
      rotation := (s.composer.rotation + 1) % 16
      steps := 0
      sending := some (.summary (s.summaryBody kind debt)) } } := rfl

/-- Settles O44: a grant command makes the arbiter's grant where it takes the command's candidate. -/
theorem grantSendsItsFrame : Obligations.GrantSendsItsFrame := by
  intro s hr
  refine ⟨fun hc => ?_, fun x rest first more hc hx hf => ?_, fun hc => ?_, fun kind hk => ?_,
    fun hc => ?_, fun kind debt d hd => ?_⟩
  · exact next_whenRunning hr ((State.grantIf_of_choose hc rfl).trans s.grantStart_eq)
  · exact next_whenRunning hr ((State.grantIf_of_choose hc rfl).trans (State.grantResponse_eq hx hf))
  · exact next_whenRunning hr ((State.grantIf_of_choose hc rfl).trans s.grantNotice_eq)
  · rcases hk with ⟨hc, rfl⟩ | ⟨hc, rfl⟩ <;>
      exact next_whenRunning hr
        ((State.grantIf_of_choose hc rfl).trans (s.grantSummary_eq _ s.composer.debt none))
  · exact next_whenRunning hr ((State.grantIf_of_choose hc rfl).trans (s.grantSummary_eq ..))
  · rw [hd]
    rfl

/-! ### PAUSE, GO, the end of a transmission and the notice hold (R149, R150, R152) -/

/-- Settles O45: what each of the four does to the flag and the link, and the grant that follows. -/
theorem pauseHoldsAndGoReleasesTheLink : Obligations.PauseHoldsAndGoReleasesTheLink := by
  intro s hr
  refine ⟨next_whenRunning hr rfl, fun hp => next_whenRunning hr (if_neg (by simp [hp])),
    fun hp => next_whenRunning hr (if_pos hp), fun hs => ?_, fun n rest hn hold hc => ?_⟩
  · obtain ⟨f, hf⟩ := Option.ne_none_iff_exists'.1 hs
    exact next_whenRunning hr (by rw [hf])
  · have passed : s.holdPassed = true := by simp [State.holdPassed, hn, hold]
    exact next_whenRunning hr ((if_pos passed).trans
      ((State.arbitrate_of_choose hc).trans s.grantNotice_eq))

/-! ### The summary timer (R154) -/

theorem summaryExpiry_idle {c : Composer} (h : c.pendingSummary = none) :
    summaryExpiry false c = { c with pendingSummary := some .scheduled } := by
  unfold summaryExpiry
  split <;> simp [h]

theorem summaryExpiry_congested {c : Composer} (h : c.pendingSummary = none)
    (hd : debtMax ≤ c.debt) :
    summaryExpiry true c = { c with pendingSummary := some .forced } := by
  simp [summaryExpiry, h, Nat.not_lt.2 hd]

/-- An expiry that makes no summary raises the debt. -/
theorem summaryExpiry_owed {b : Bool} {c : Composer} (h : c.pendingSummary ≠ none ∨ b = true)
    (hd : c.debt < debtMax) : summaryExpiry b c = { c with debt := c.debt + 1 } := by
  rcases h with h | rfl <;> simp [summaryExpiry, *]

theorem summaryExpiry_pending {b : Bool} {c : Composer} (h : c.pendingSummary ≠ none)
    (hd : debtMax ≤ c.debt) : summaryExpiry b c = c := by
  simp [summaryExpiry, h, Nat.not_lt.2 hd]

/-- Settles O46: an expiry is the summary timer's next expiry with the fields that `summaryExpiry`
writes, case by case. -/
theorem summaryTimerRaisesDebtUnderCongestion :
    Obligations.SummaryTimerRaisesDebtUnderCongestion := by
  intro s due congested hr hdue hpast hcong
  obtain ⟨pending, debt, hmade, -⟩ := summaryExpiry_cases congested s.composer
  have fields : ∀ {p d}, summaryExpiry congested s.composer =
      { s.composer with pendingSummary := p, debt := d } → pending = p ∧ debt = d := by
    intro p d h
    simpa using hmade.symm.trans h
  refine ⟨pending, debt, ?_, fun hn hb => ?_, fun hn hb hd => ?_, fun hn hb hd => ?_,
    fun hn hd => ?_, fun hn hd => ?_⟩
  · refine next_whenRunning hr ?_
    have hc : s.congested = congested := hcong.symm
    simp only [hdue, hpast, if_true, hc, hmade, nextExpiry]
  · subst hb
    exact fields (summaryExpiry_idle hn)
  · exact hn ▸ fields (summaryExpiry_owed (.inr hb) hd)
  · subst hb
    exact fields (summaryExpiry_congested hn hd)
  · exact fields (summaryExpiry_owed (.inl hn) hd)
  · exact fields (summaryExpiry_pending hn hd)

/-! ### The TIME beacon and its loss (R172, R173) -/

theorem Timebase.isStep_iff {t : Timebase} {v : BitVec 32} {offset : Int}
    (h : t.beaconOffset v = offset) :
    t.isStep v = true ↔ ¬ (offset - t.offset ≤ 2 ∧ t.offset - offset ≤ 2) := by
  rw [Timebase.isStep, decide_eq_true_iff, h, beaconTolerance]
  omega

theorem State.beaconLost_of_passed {last : Nat} (hl : s.time.lossRunning = true)
    (hs : s.time.state = .synced) (hb : s.time.lastBeacon = some last)
    (hp : last + s.inForce.settings.beaconLoss ≤ s.time.localMs / 1000) : s.beaconLost = true := by
  simp [State.beaconLost, Timebase.seconds, hl, hs, hb, hp]

/-- Settles O47: the timebase and the step count after a beacon, and the state after its loss. -/
theorem beaconSyncsAndItsLossFreesTheClock : Obligations.BeaconSyncsAndItsLossFreesTheClock := by
  refine fun s hr => ⟨fun v offset ho => ?_, fun last hl hs hb hp => ?_⟩ <;>
    refine next_whenRunning hr ?_
  · have given : s.time.beaconOffset v = offset := ho.symm
    by_cases small : offset - s.time.offset ≤ 2 ∧ s.time.offset - offset ≤ 2
    · have same : ¬ s.time.isStep v = true := fun h => (Timebase.isStep_iff given).1 h small
      rw [if_neg same, if_pos small, Timebase.beacon, given]
      rfl
    · have step : s.time.isStep v = true := (Timebase.isStep_iff given).2 small
      rw [if_pos step, if_neg small, Timebase.beacon, given]
      rfl
  · exact if_pos (State.beaconLost_of_passed hl hs hb hp)

end Sys2Proof.Machine
end

section
/-! PROOFS. A paused link (R149, R150): no command but GO begins to send a frame, and none but GO and
the causes of a start clears the flag. -/

namespace Sys2Proof.Machine

variable {s t : State} {r : Request}

/-! ### What no command of the uplink, the tables or the watch unit reaches -/

/-- What the pause holds: the flag, and the frame being sent. -/
def State.link (s : State) : Bool × Option OutFrame := (s.composer.paused, s.composer.sending)

@[simp] theorem State.link_setAuthority (c : Nat) (a : Authority) :
    (s.setAuthority c a).link = s.link := rfl
@[simp] theorem State.link_setWatch (w : Watch) : State.link { s with watch := w } = s.link := rfl

theorem State.link_tablesStep (h : s.TablesStep t) : t.link = s.link := by
  rw [h.frame]
  rfl

@[simp] theorem State.link_release (e : MergeEntry) : (s.release e).link = s.link := by
  unfold State.link
  rw [State.release_frame]

@[simp] theorem State.link_givePlaces : s.givePlaces.link = s.link := by
  unfold State.link
  rw [State.givePlaces_frame]

@[simp] theorem State.link_expire (e : MergeEntry) : (s.expire e).link = s.link := by
  unfold State.expire
  split
  · exact State.link_release e
  · rfl

@[simp] theorem State.link_openEntry (q : Nat) (p : List Byte) :
    (s.openEntry q p).link = s.link := by
  unfold State.openEntry
  dsimp only
  split
  · exact State.link_expire _
  · rfl

@[simp] theorem State.link_intoWindow (q : Nat) (p : List Byte) :
    (s.intoWindow q p).link = s.link := by
  unfold State.intoWindow State.openFull
  split
  · rfl
  · split
    · exact State.link_openEntry q p
    · split
      · exact State.link_openEntry q p
      · split
        · exact (State.link_openEntry q p).trans (State.link_release _)
        · rfl

@[simp] theorem State.link_takeFrame (chain : Nat) (f : ChainFrame) :
    (s.takeFrame chain f).link = s.link := by
  unfold State.takeFrame
  dsimp only
  split
  · rfl
  · exact State.link_intoWindow ..

@[simp] theorem State.link_startFrame (f : Frame) : (s.startFrame f).link = s.link := by
  unfold State.startFrame
  split
  · rfl
  · split <;> rfl

@[simp] theorem State.link_complete (e : Estimate) : (s.complete e).link = s.link := by
  unfold State.complete
  split
  · rw [State.applyCompletion_frame]
    rfl
  · rfl

@[simp] theorem State.link_sweepBin (b : Nat) : (s.sweepBin b).link = s.link := by
  unfold State.sweepBin State.makeSilent
  split
  · split
    · dsimp only
      split <;> rfl
    · rfl
  · rfl

@[simp] theorem State.link_sweep : s.sweep.link = s.link := by
  unfold State.sweep
  generalize s.sweptBins = bins
  induction bins generalizing s with
  | nil => rfl
  | cons b rest ih => exact ih.trans (State.link_sweepBin b)

@[simp] theorem State.link_arrive (r : Request) : (s.arrive r).link = s.link := by
  unfold State.arrive
  split
  · rfl
  · split <;> rfl

/-! ### What the service of the head leaves (R161, R168) -/

@[simp] theorem State.link_answer (r : Request) (x : Result) (l : List Contents) :
    (s.answer r x l).link = s.link := rfl
@[simp] theorem State.link_grantOk (r : Request) (x : Contents) :
    (s.grantOk r x).link = s.link := rfl
@[simp] theorem State.link_reopen (c : PendingChange) : (s.reopen c).link = s.link := rfl

theorem State.link_applyPending {apply : Request → State → Applied}
    (ha : ∀ (r : Request) (s : State), s.TablesStep (apply r s).1) (c : PendingChange) (r : Request) :
    (s.applyPending apply c r).link = s.link :=
  calc (s.applyPending apply c r).link
    _ = (State.grantOk r (apply r s).2 ((apply r s).1.reopen c)).link := State.link_givePlaces
    _ = (apply r s).1.link := (State.link_grantOk ..).trans (State.link_reopen c)
    _ = s.link := State.link_tablesStep (ha r s)

theorem State.link_carryChange {apply : Request → State → Applied}
    (ha : ∀ (r : Request) (s : State), s.TablesStep (apply r s).1) (ds : List Nat) (r : Request) :
    (s.carryChange apply ds r).link = s.link := by
  unfold State.carryChange
  split
  · exact (State.link_grantOk ..).trans (State.link_tablesStep (ha r s))
  · split
    · exact State.link_applyPending ha _ r
    · rfl

/-- The service of the head reaches the link only where its carrying out does. -/
theorem State.link_serve {mine : Request → Bool} {check : State → Request → Option Result}
    {carry : Request → State → State} (hk : ∀ r, (carry r s).link = s.link) :
    (s.serve mine check carry).link = s.link := by
  rcases State.serve_cases mine check carry s with hs | ⟨r, -, -, ⟨x, -, hs⟩ | ⟨-, hs⟩⟩ <;> rw [hs]
  · rfl
  · exact hk r

theorem State.link_serve_report {mine : Request → Bool} {check : State → Request → Option Result}
    {of : Request → State → Contents} :
    (s.serve mine check (State.report of)).link = s.link :=
  State.link_serve fun r => State.link_grantOk r (of r s)

theorem State.link_serve_change {mine : Request → Bool}
    {check : State → Request → Option Result} {apply : Request → State → Applied}
    {ds : Request → State → List Nat} (ha : ∀ (r : Request) (s : State), s.TablesStep (apply r s).1) :
    (s.serve mine check fun r s => s.carryChange apply (ds r s) r).link = s.link :=
  State.link_serve fun r => State.link_carryChange ha (ds r s) r

/-! ### Command by command -/

theorem keeps_link_whenRunning {f : State → State} (h : (f s).link = s.link) :
    Keeps (fun t => t.link = s.link) (.next (s.whenRunning f)) := by
  refine keeps_next ?_
  unfold State.whenRunning
  split
  · exact h
  · rfl

theorem execIntakeFrameTake_link (c0 c1 c2 c3 : Option ChainFrame) :
    Keeps (fun t => t.link = s.link) (execIntakeFrameTake c0 c1 c2 c3 s) := by
  refine keeps_link_whenRunning ?_
  split
  · exact State.link_takeFrame ..
  · rfl

theorem execMergeEntryExpiry_link (sensor : SensorId) (count : FrameCount) :
    Keeps (fun t => t.link = s.link) (execMergeEntryExpiry sensor count s) := by
  refine keeps_link_whenRunning ?_
  split
  · split
    · exact State.link_expire _
    · rfl
  · rfl

theorem execEstimateStart_link : Keeps (fun t => t.link = s.link) (execEstimateStart s) := by
  refine keeps_link_whenRunning ?_
  split
  · exact State.link_startFrame _
  · rfl

theorem execEstimateCompletion_link (bin : Nat) :
    Keeps (fun t => t.link = s.link) (execEstimateCompletion bin s) := by
  refine keeps_link_whenRunning ?_
  split
  · exact State.link_complete _
  · rfl

theorem execSilenceSweep_link : Keeps (fun t => t.link = s.link) (execSilenceSweep s) := by
  refine keeps_link_whenRunning ?_
  dsimp only
  split
  · split
    · exact State.link_sweep
    · rfl
  · rfl

theorem execManagementFrame_link (body : List Byte) :
    Keeps (fun t => t.link = s.link) (execManagementFrame body s) := by
  refine keeps_link_whenRunning ?_
  split
  · exact State.link_arrive _
  · rfl

theorem execTimeBeacon_link (v : BitVec 32) :
    Keeps (fun t => t.link = s.link) (execTimeBeacon v s) := by
  refine keeps_link_whenRunning ?_
  dsimp only
  split <;> rfl

theorem execBeaconLossExpiry_link : Keeps (fun t => t.link = s.link) (execBeaconLossExpiry s) := by
  refine keeps_link_whenRunning ?_
  split <;> rfl

theorem execLoadWatchMask_link : Keeps (fun t => t.link = s.link) (execLoadWatchMask s) := by
  refine keeps_next (State.link_serve fun r => ?_)
  split <;> rfl

theorem execChangeApplication_link :
    Keeps (fun t => t.link = s.link) (execChangeApplication s) := by
  refine keeps_link_whenRunning ?_
  split
  · split
    · exact State.link_applyPending applyChange_tablesStep _ _
    · rfl
  · rfl

theorem execChangeTimeout_link : Keeps (fun t => t.link = s.link) (execChangeTimeout s) := by
  refine keeps_link_whenRunning ?_
  split
  · split
    · exact State.link_givePlaces
    · rfl
  · rfl

theorem execSummaryTimerExpiry_link :
    Keeps (fun t => t.link = s.link) (execSummaryTimerExpiry s) := by
  refine keeps_link_whenRunning ?_
  dsimp only
  split
  · split
    · obtain ⟨p, d, hc, -⟩ := summaryExpiry_cases s.congested s.composer
      rw [hc]
      rfl
    · rfl
  · rfl

theorem execStoreWriteBegin_link : Keeps (fun t => t.link = s.link) (execStoreWriteBegin s) := by
  refine keeps_next ?_
  split <;> rfl

theorem execStoreWriteEnd_link : Keeps (fun t => t.link = s.link) (execStoreWriteEnd s) := by
  refine keeps_next ?_
  split <;> rfl

theorem execPowerLoss_link : Keeps (fun t => t.link = s.link) (execPowerLoss s) := by
  refine keeps_next ?_
  split <;> rfl

theorem execStartComplete_link : Keeps (fun t => t.link = s.link) (execStartComplete s) := by
  refine keeps_next ?_
  split
  · split <;> rfl
  · rfl

theorem execInboundFrameDiscarded_link (bytes : List Byte) :
    Keeps (fun t => t.link = s.link) (execInboundFrameDiscarded bytes s) := by
  refine keeps_link_whenRunning ?_
  split <;> rfl

/-! ### The arbiter of a paused link (R149, R150) -/

theorem State.arbitrate_of_paused (hp : s.composer.paused = true) : s.arbitrate = s :=
  State.arbitrate_of_none (State.choose_of_paused hp)

theorem State.grantIf_of_paused (hp : s.composer.paused = true) (cs : List Candidate) :
    s.grantIf cs = s := by
  simp only [State.grantIf, State.choose_of_paused hp]

theorem execPause_link (hp : s.composer.paused = true) :
    Keeps (fun t => t.link = s.link) (execPause s) :=
  keeps_link_whenRunning (Prod.ext hp.symm rfl)

theorem whenRunning_grantIf_link (hp : s.composer.paused = true) (cs : List Candidate) :
    Keeps (fun t => t.link = s.link) (.next (s.whenRunning (State.grantIf cs))) :=
  keeps_link_whenRunning (congrArg State.link (State.grantIf_of_paused hp cs))

theorem execNoticeHoldExpiry_link (hp : s.composer.paused = true) :
    Keeps (fun t => t.link = s.link) (execNoticeHoldExpiry s) := by
  refine keeps_link_whenRunning ?_
  split
  · rw [State.arbitrate_of_paused hp]
  · rfl

/-! ### Every command -/

/-- The commands that can move the link while it is paused: GO, the end of a transmission, and the
causes of a start. -/
def movesPausedLink : Instr → Bool
  | .go | .transmissionEnd | .powerOn | .resetLineAssert | .restart => true
  | _ => false

/-- Every other command leaves the paused flag and the frame being sent. -/
theorem exec_link_of_paused (c : Instr) (hm : movesPausedLink c = false)
    (hp : s.composer.paused = true) : Keeps (fun t => t.link = s.link) (exec c s) := by
  cases c with
  | intakeFrameTake c0 c1 c2 c3 => exact execIntakeFrameTake_link c0 c1 c2 c3
  | mergeEntryExpiry sensor count => exact execMergeEntryExpiry_link sensor count
  | admissionPlaceGrant => exact keeps_link_whenRunning State.link_givePlaces
  | estimateStart => exact execEstimateStart_link
  | estimateCompletion bin => exact execEstimateCompletion_link bin
  | silenceSweep => exact execSilenceSweep_link
  | managementFrame body => exact execManagementFrame_link body
  | timeBeacon v => exact execTimeBeacon_link v
  | pause => exact execPause_link hp
  | loadPrefix => exact keeps_next (State.link_serve_change applyLoadPrefix_tablesStep)
  | clearPrefix => exact keeps_next (State.link_serve_change applyClearPrefix_tablesStep)
  | loadDevice => exact keeps_next (State.link_serve_change applyLoadDevice_tablesStep)
  | clearDevice => exact keeps_next (State.link_serve_change applyClearDevice_tablesStep)
  | loadBin => exact keeps_next (State.link_serve_change applyLoadBin_tablesStep)
  | retireBin => exact keeps_next (State.link_serve_change applyRetireBin_tablesStep)
  | clearDistrict => exact keeps_next (State.link_serve_change applyClearDistrict_tablesStep)
  | loadProfile => exact keeps_next (State.link_serve_change applyLoadProfile_tablesStep)
  | readPrefix | readDeviceByEntry | readDeviceBySensor | readBin | readProfile | readOutcomes
  | readCounters | readAuthority | readConfig => exact keeps_next State.link_serve_report
  | requestDueList => exact keeps_next (State.link_serve fun _ => State.link_answer ..)
  | readCountersReset | resetCounters =>
    exact keeps_next (State.link_serve fun r =>
      (State.link_grantOk r _).trans (State.link_setWatch _))
  | loadAuthority =>
    exact keeps_next (State.link_serve fun r =>
      (State.link_grantOk r _).trans (State.link_setAuthority ..))
  | storeConfig | unknownOp => exact keeps_next (State.link_serve fun _ => rfl)
  | loadWatchMask => exact execLoadWatchMask_link
  | changeApplication => exact execChangeApplication_link
  | changeTimeout => exact execChangeTimeout_link
  | startGrant | responseGrant | noticeGrant | summaryGrant | catchUpSummary =>
    exact whenRunning_grantIf_link hp _
  | noticeHoldExpiry => exact execNoticeHoldExpiry_link hp
  | summaryTimerExpiry => exact execSummaryTimerExpiry_link
  | beaconLossExpiry => exact execBeaconLossExpiry_link
  | storeWriteBegin => exact execStoreWriteBegin_link
  | storeWriteEnd => exact execStoreWriteEnd_link
  | powerLoss => exact execPowerLoss_link
  | resetLineRelease => exact keeps_next rfl
  | startComplete => exact execStartComplete_link
  | inboundFrameDiscarded bytes => exact execInboundFrameDiscarded_link bytes
  | go | transmissionEnd | powerOn | resetLineAssert | restart => cases hm

/-- From `s` to `t` no frame is begun: the one being sent goes on, or the link is free. -/
def State.BeginsNoFrame (s t : State) : Prop :=
  t.composer.sending = s.composer.sending ∨ t.composer.sending = none

/-- The end of a transmission frees the link, and a paused link stays free (R150). -/
theorem execTransmissionEnd_paused (hp : s.composer.paused = true) :
    Keeps (fun t => s.BeginsNoFrame t ∧ t.composer.paused = true) (execTransmissionEnd s) := by
  refine keeps_next ?_
  unfold State.whenRunning
  split
  · dsimp only
    split
    · rw [State.arbitrate_of_paused]
      · exact ⟨.inr rfl, hp⟩
      · exact hp
    · exact ⟨.inl rfl, hp⟩
  · exact ⟨.inl rfl, hp⟩

theorem execPowerOn_beginsNoFrame : Keeps s.BeginsNoFrame (execPowerOn s) := by
  refine keeps_next ?_
  split
  · exact .inl rfl
  · exact .inr rfl

theorem execResetLineAssert_beginsNoFrame : Keeps s.BeginsNoFrame (execResetLineAssert s) := by
  refine keeps_next ?_
  split
  · exact .inl rfl
  · split
    · exact .inr rfl
    · exact .inl rfl

theorem execRestart_beginsNoFrame : Keeps s.BeginsNoFrame (execRestart s) := by
  refine keeps_next ?_
  rcases State.serve_cases (isOp .restart) checkRestart
    (fun r s => s.restarted (.command r.tag)) s with hs | ⟨r, -, -, ⟨x, -, hs⟩ | ⟨-, hs⟩⟩ <;> rw [hs]
  · exact .inl rfl
  · exact .inl rfl
  · exact .inr rfl

/-- Settles O60: the commands that leave the paused link, then the end of a transmission and the
causes of a start. -/
theorem pausedLinkGrantsNothing : Obligations.PausedLinkGrantsNothing := by
  intro c s t hp ht hgo
  cases hm : movesPausedLink c with
  | false =>
    obtain ⟨flag, frame⟩ := Prod.mk.inj (exec_link_of_paused c hm hp t ht)
    exact ⟨.inl frame, fun _ _ _ => flag.trans hp⟩
  | true =>
    cases c with
    | go => exact absurd rfl hgo
    | transmissionEnd =>
      obtain ⟨frame, flag⟩ := execTransmissionEnd_paused hp t ht
      exact ⟨frame, fun _ _ _ => flag⟩
    | powerOn => exact ⟨execPowerOn_beginsNoFrame t ht, fun h _ _ => absurd rfl h⟩
    | resetLineAssert => exact ⟨execResetLineAssert_beginsNoFrame t ht, fun _ h _ => absurd rfl h⟩
    | restart => exact ⟨execRestart_beginsNoFrame t ht, fun _ _ h => absurd rfl h⟩
    | _ => cases hm

end Sys2Proof.Machine
end

section
/-! PROOFS. A request that arrives, one that fails a check, and LOAD AUTHORITY and STORE CONFIG
(R159 to R168, R174, R176, R181). -/

namespace Sys2Proof.Machine

open Sys2Proof.Statements

variable {s : State} {r : Request}

/-! ### Arrival (R151, R159, R160) -/

theorem requestOf_of_short {body : List Byte} (h : body.length < 6) : requestOf body = none :=
  if_pos h

theorem requestOf_of_long {body : List Byte} (h : 6 ≤ body.length) :
    requestOf body = some { tag := word16At body 0, credential := byteAt body 2,
                            op := byteAt body 3, argLen := word16At body 4,
                            args := body.drop 6 } :=
  if_neg (Nat.not_lt.2 h)

/-- The response list is full for a BUSY refusal at 15 while a change waits, else at 16 (R151). -/
theorem State.listFull_iff : s.listFull = true ↔
    (if s.gates.change.isSome then 15 else 16) ≤ s.composer.responses.length := by
  rw [State.listFull, decide_eq_true_iff, State.headWaits, responseSize]
  split <;> omega

theorem State.arrive_of_room (r : Request) (h : s.management.queue.length < 8) : s.arrive r =
    { s with management := { s.management with queue := s.management.queue ++ [r] } } :=
  if_pos h

theorem State.arrive_of_full (r : Request) (h : 8 ≤ s.management.queue.length) : s.arrive r =
    if s.listFull then s.raiseLinkFault .unanswered else s.respond r .busy [.nothing] :=
  if_neg (Nat.not_lt.2 h)

/-- Settles O28: a body is a request or too short to be one, and a request finds room in the queue,
or in the response list, or in neither. -/
theorem arrivingRequestJoinsOrIsRefused : Obligations.ArrivingRequestJoinsOrIsRefused := by
  intro s body hr
  refine ⟨fun short => next_whenRunning hr ?_, fun r long hreq => ?_⟩
  · rw [requestOf_of_short short]
    rfl
  have parsed : requestOf body = some r := hreq ▸ requestOf_of_long long
  have arrives : exec (.managementFrame body) s = .next (s.arrive r) :=
    next_whenRunning hr (by rw [parsed])
  rw [arrives]
  refine ⟨fun room => ?_, fun full place => ?_, fun full noPlace => ?_⟩
  · rw [State.arrive_of_room r room]
  · rw [State.arrive_of_full r full, if_neg (mt State.listFull_iff.1 (Nat.not_le.2 place))]
    rfl
  · rw [State.arrive_of_full r full, if_pos (State.listFull_iff.2 noPlace)]
    rfl

/-! ### The command of the head (R161, R162) -/

/-- The command of a request serves requests of its kind, with the checks of its operation. -/
theorem exec_headCommand (s : State) (r : Request) : ∃ mine check carry, mine r = true ∧
    check s r = headCheck s r ∧
    exec (headCommand r) s = .next (s.serve mine check carry) := by
  cases ho : r.operation with
  | none =>
    rw [headCommand, headCheck, ho]
    exact ⟨_, _, _, by rw [ho]; rfl, rfl, rfl⟩
  | some op =>
    have mine := isOp_iff.2 ho
    rw [headCommand, headCheck, ho]
    cases op with
    | readDevice =>
      by_cases form : isBySensor r = true
      · simp only [if_pos form]
        exact ⟨_, _, _, form, rfl, rfl⟩
      · simp only [if_neg form]
        exact ⟨_, _, _, (isByEntry_iff ho).2 (mt (isBySensor_iff ho).2 form), rfl, rfl⟩
    | readCounters =>
      by_cases reset : isCountersReset r = true
      · simp only [if_pos reset]
        exact ⟨_, _, _, reset, rfl, rfl⟩
      · simp only [if_neg reset]
        exact ⟨isCountersRead, _, _, by simp [isCountersRead, mine, reset], rfl, rfl⟩
    | _ => exact ⟨_, _, _, mine, rfl, rfl⟩

theorem exec_headCommand_failed {x : Result} (hr : s.head = some r)
    (hc : headCheck s r = some x) : exec (headCommand r) s = .next (answered s r x [.nothing]) := by
  obtain ⟨mine, check, carry, hm, hcheck, he⟩ := exec_headCommand s r
  rw [he, State.serve_failed hr hm (hcheck.trans hc)]
  rfl

/-- The codes outside 0x01..0x16 name no operation (R162, R182). -/
theorem operation_eq_none (h : r.op < 0x01 ∨ 0x16 < r.op) : r.operation = none := by
  rw [Request.operation, Operation.ofCode]
  rcases h with h | h
  · exact if_pos (Nat.lt_one_iff.1 h)
  · rw [if_neg (by omega)]
    exact List.getElem?_eq_none (Nat.le_sub_one_of_lt h)

/-- Settles O29: every operation's command answers the first failing check in one way, and an
unknown operation fails its first. -/
theorem failingRequestChangesNothing : Obligations.FailingRequestChangesNothing := by
  intro s r hr
  refine ⟨fun x hc => exec_headCommand_failed hr hc, fun hop => ?_⟩
  have unknown := operation_eq_none hop
  have command : headCommand r = .unknownOp := by rw [headCommand, unknown]
  rw [← command]
  exact exec_headCommand_failed hr (by rw [headCheck, unknown])

/-! ### Numbers of an argument block -/

theorem byteAt_lt (p : List Byte) (i : Nat) : byteAt p i < 256 := BitVec.isLt _

theorem word16At_lt (p : List Byte) (i : Nat) : word16At p i < 65536 := by
  have high := byteAt_lt p i
  have low := byteAt_lt p (i + 1)
  rw [word16At]
  omega

theorem Request.set16_toNat (r : Request) (i : Nat) : (r.set16 i).toNat = word16At r.args i :=
  (BitVec.toNat_ofNat ..).trans (Nat.mod_eq_of_lt (word16At_lt r.args i))

/-- The three bytes of a row set hold it as a number (R181). -/
theorem word24At_rowSetBytes (set : RowSet) : word24At (rowSetBytes set) 0 = set.toNat := by
  have parts : word24At (rowSetBytes set) 0 = (byte (set.toNat / 65536)).toNat * 65536 +
      ((byte (set.toNat / 256)).toNat * 256 + (byte set.toNat).toNat) := rfl
  have lt : set.toNat < 131072 := set.isLt
  rw [parts, byte_toNat, byte_toNat, byte_toNat]
  omega

/-- Bit r of the three bytes stands for row r, and bits 17 to 23 are clear (R181). -/
theorem getLsbD_rowSetBytes (set : RowSet) (i : Nat) :
    (BitVec.ofNat 24 (word24At (rowSetBytes set) 0)).getLsbD i = set.getLsbD i := by
  rw [word24At_rowSetBytes, BitVec.ofNat_toNat, BitVec.getLsbD_setWidth]
  by_cases hi : i < 24
  · rw [decide_eq_true hi, Bool.true_and]
  · rw [decide_eq_false hi, Bool.false_and, BitVec.getLsbD_of_ge set i (by omega)]

/-! ### LOAD AUTHORITY (R164, R165) -/

/-- A request that credential 0 alone may make passes its checks for credential 0 with its
arguments in range. -/
theorem owner_of_ownerChecks {op : Operation} {args : Bool}
    (h : s.ownerChecks r op args = none) : r.credential = 0 ∧ args = true := by
  simp only [State.ownerChecks, firstFailure_eq_none, List.forall_mem_cons] at h
  obtain ⟨-, -, owner, hargs, -⟩ := h
  exact ⟨of_decide_eq_true owner, hargs⟩

theorem State.authorityOf_setAuthority (hw : s.management.authority.wf = true) {c : Nat}
    (hc : c ≠ 0) (a : Authority) (i : Nat) :
    (s.setAuthority c a).authorityOf i = if i = c then a else s.authorityOf i := by
  have read : (s.setAuthority c a).management.authority.read .nothing i =
      if i = c then a else s.management.authority.read .nothing i := Table.read_write hw ..
  unfold State.authorityOf
  rw [read]
  split_ifs with h0 hi hi
  · exact absurd (hi.symm.trans h0) hc
  · rfl
  · rfl
  · rfl

theorem exec_loadAuthority (hp : Passes s r .loadAuthority) : exec .loadAuthority s =
    .next ((s.setAuthority (r.arg8 0) r.sets).grantOk r
      (.authorityWas (s.authorityOf (r.arg8 0)))) := by
  obtain ⟨hr, ho, hc⟩ := hp
  rw [headCheck, ho] at hc
  exact congrArg Host.Outcome.next (State.serve_passed hr (isOp_iff.2 ho) hc)

/-- A LOAD AUTHORITY that passes its checks is credential 0's and names a credential 1 to 7. -/
theorem target_of_passes (hp : Passes s r .loadAuthority) :
    1 ≤ r.arg8 0 ∧ r.arg8 0 ≤ 7 ∧ r.credential = 0 := by
  obtain ⟨-, ho, hc⟩ := hp
  rw [headCheck, ho] at hc
  obtain ⟨owner, fits⟩ := owner_of_ownerChecks hc
  obtain ⟨low, high⟩ := Bool.and_eq_true_iff.1 fits
  exact ⟨of_decide_eq_true low, Nat.le_of_lt_succ (of_decide_eq_true high), owner⟩

/-! ### STORE CONFIG (R174, R176) -/

theorem exec_storeConfig (hp : Passes s r .storeConfig) : exec .storeConfig s =
    .next (State.grantOk r (.configStored r.record.settings.clampList s.store.writing.isSome)
      { s with store := { s.store with waiting := some r.record } }) := by
  obtain ⟨hr, ho, hc⟩ := hp
  rw [headCheck, ho] at hc
  exact congrArg Host.Outcome.next (State.serve_passed hr (isOp_iff.2 ho) hc)

theorem owner_of_passes_storeConfig (hp : Passes s r .storeConfig) : r.credential = 0 := by
  obtain ⟨-, ho, hc⟩ := hp
  rw [headCheck, ho] at hc
  exact (owner_of_ownerChecks hc).1

theorem settingOf_record (r : Request) (x : Setting) :
    settingOf r.record.settings.values x = word16At r.args (settingAt x) := by
  cases x <;> exact Request.set16_toNat r _

/-- What a start makes of each setting (R174). -/
theorem settingOf_clamped (v : Settings) (x : Setting) :
    settingOf v.clamped x = putInRange x (settingOf v x) := by
  have low (high n : Nat) : clampTo 0 high n = min high n :=
    (clampTo_eq (Nat.zero_le high)).trans (Nat.zero_max _)
  cases x with
  | mergeWindow => exact congrArg (· / 250 * 250) (low ..)
  | noticeHold => exact low ..
  | _ => exact clampTo_eq (by decide)

/-- The settings in the order of R174. -/
def settingOrder : List Setting :=
  [.mergeWindow, .sweepInterval, .dueHorizon, .changeWait, .noticeHold, .summaryInterval,
    .beaconLoss, .credentials]

/-- The clamp list is the settings, in their order, whose value a start changes. -/
theorem clampList_eq (block : StoredSettings) : block.clampList =
    settingOrder.filter fun x =>
      settingOf block.values x != settingOf block.values.clamped x := by
  have held : block.clampList =
      ((settingOrder.map fun x =>
        (x, settingOf block.values x, settingOf block.values.clamped x)).filter
          fun e => e.2.1 != e.2.2).map (·.1) := rfl
  rw [held, List.filter_map, List.map_map]
  exact List.map_id _

theorem clampList_namesAdjusted (block : StoredSettings) :
    NamesAdjusted block.clampList block.values := by
  have nodup : settingOrder.Nodup := by decide
  have all (x : Setting) : x ∈ settingOrder := by cases x <;> decide
  rw [clampList_eq]
  refine ⟨nodup.filter _, fun x => ?_⟩
  rw [List.mem_filter, bne_iff_ne, settingOf_clamped]
  exact ⟨fun h => h.2.symm, fun h => ⟨all x, h.symm⟩⟩

/-- Settles O41: each of the two commands is carried out whole, and its response and its record are
read off. -/
theorem authorityAndRecordAreReplaced : Obligations.AuthorityAndRecordAreReplaced := by
  intro s r hcan
  refine ⟨fun hp => ?_, fun set => ⟨rfl, getLsbD_rowSetBytes set⟩, fun _ _ _ => ⟨rfl, rfl⟩,
    fun hp => ⟨owner_of_passes_storeConfig hp, r.record, r.record.settings.clampList,
      exec_storeConfig hp, settingOf_record r, rfl, rfl, clampList_namesAdjusted _⟩⟩
  have target := target_of_passes hp
  exact ⟨_, exec_loadAuthority hp, target, rfl, State.authorityOf_setAuthority
    (Table.wf_of_canonical hcan.authority) (Nat.one_le_iff_ne_zero.1 target.1) r.sets⟩

end Sys2Proof.Machine
end

section
/-! PROOFS. The masks, the rights, the stored record, what is in force, the local time and the
planner offset: each changes by its own commands alone (R161, R163, R167, R172, R176). -/

namespace Sys2Proof.Machine

open Sys2Proof.Statements

variable {s t : State} {r : Request}

/-! ### What has commands of its own -/

/-- The stored record, whatever the store is doing with it (R174). -/
structure StoredParts where
  settings : StoredSettings
  check : BitVec 16
  copy1 : ProtectionCopy
  copy2 : ProtectionCopy
  copy3 : ProtectionCopy

/-- The stored record of a store. -/
def Store.parts (st : Store) : StoredParts where
  settings := st.settings
  check := st.check
  copy1 := st.copy1
  copy2 := st.copy2
  copy3 := st.copy3

/-- The parts of the state, besides the tables, that few commands change. -/
structure Reserved where
  masks : Table MaskMode
  authority : Table Authority
  stored : StoredParts
  inForce : InForce
  localMs : Nat
  offset : Int

/-- The reserved parts of a state. -/
def State.reserved (s : State) : Reserved where
  masks := s.watch.masks
  authority := s.management.authority
  stored := s.store.parts
  inForce := s.inForce
  localMs := s.time.localMs
  offset := s.time.offset

/-- Events reach the counters and the notices of the watch unit alone. -/
@[simp] theorem State.reserved_raiseGroup (es : List Event) :
    (s.raiseGroup es).reserved = s.reserved := by
  unfold State.reserved
  rw [State.raiseGroup, Watch.takeGroup_masks]

@[simp] theorem State.reserved_endFrame (c : WatchClass) (row : Nat) (bin : Option Nat)
    (p : List Byte) (o : OutcomeCode) : (s.endFrame c row bin p o).reserved = s.reserved :=
  State.reserved_raiseGroup _

@[simp] theorem State.reserved_setWindow (w : List MergeEntry) :
    (s.setWindow w).reserved = s.reserved := rfl
@[simp] theorem State.reserved_answer (r : Request) (x : Result) (l : List Contents) :
    (s.answer r x l).reserved = s.reserved := rfl
@[simp] theorem State.reserved_grantOk (r : Request) (x : Contents) :
    (s.grantOk r x).reserved = s.reserved := rfl
@[simp] theorem State.reserved_reopen (c : PendingChange) :
    (s.reopen c).reserved = s.reserved := rfl

theorem State.reserved_tablesStep (h : s.TablesStep t) : t.reserved = s.reserved := by
  rw [h.frame]
  rfl

/-! ### Intake, admission and estimates -/

@[simp] theorem State.reserved_release (e : MergeEntry) : (s.release e).reserved = s.reserved := by
  rw [State.release_frame]
  rfl

@[simp] theorem State.reserved_givePlaces : s.givePlaces.reserved = s.reserved := by
  rw [State.givePlaces_frame]
  rfl

@[simp] theorem State.reserved_expire (e : MergeEntry) : (s.expire e).reserved = s.reserved := by
  unfold State.expire
  split <;> simp

@[simp] theorem State.reserved_openEntry (q : Nat) (p : List Byte) :
    (s.openEntry q p).reserved = s.reserved := by
  unfold State.openEntry
  dsimp only
  split <;> simp

@[simp] theorem State.reserved_openFull (q : Nat) (p : List Byte) :
    (s.openFull q p).reserved = s.reserved := by
  unfold State.openFull
  split
  · simp
  · split <;> simp

@[simp] theorem State.reserved_intoWindow (q : Nat) (p : List Byte) :
    (s.intoWindow q p).reserved = s.reserved := by
  unfold State.intoWindow
  split
  · rfl
  · split <;> simp

theorem State.reserved_takeFrame (chain : Nat) (f : ChainFrame) :
    (s.takeFrame chain f).reserved = s.reserved := by
  unfold State.takeFrame
  dsimp only
  split
  · exact State.reserved_raiseGroup _
  · exact State.reserved_intoWindow ..

theorem State.reserved_startFrame (f : Frame) : (s.startFrame f).reserved = s.reserved := by
  unfold State.startFrame
  split
  · exact State.reserved_endFrame ..
  · split
    · rfl
    · exact State.reserved_endFrame ..
    · exact State.reserved_endFrame ..

theorem State.reserved_complete (e : Estimate) : (s.complete e).reserved = s.reserved := by
  unfold State.complete
  split
  · rw [State.applyCompletion_frame]
    exact State.reserved_raiseGroup _
  · rfl

theorem State.reserved_makeSilent (b : Nat) (a : Assigned) :
    (s.makeSilent b a).reserved = s.reserved := by
  unfold State.makeSilent
  dsimp only
  split <;> exact State.reserved_raiseGroup _

theorem State.reserved_sweepBin (b : Nat) : (s.sweepBin b).reserved = s.reserved := by
  unfold State.sweepBin
  split
  · split
    · exact State.reserved_makeSilent ..
    · rfl
  · rfl

theorem State.reserved_sweep : s.sweep.reserved = s.reserved := by
  unfold State.sweep
  generalize s.sweptBins = bins
  induction bins generalizing s with
  | nil => rfl
  | cons b rest ih => exact ih.trans (State.reserved_sweepBin b)

/-! ### The link -/

theorem State.reserved_arrive (r : Request) : (s.arrive r).reserved = s.reserved := by
  unfold State.arrive
  split
  · rfl
  · split
    · exact State.reserved_raiseGroup _
    · rfl

@[simp] theorem State.reserved_grant (c : Candidate) : (s.grant c).reserved = s.reserved := by
  cases c with
  | response =>
    show s.grantResponse.reserved = s.reserved
    unfold State.grantResponse
    split <;> rfl
  | start | forced | notice | scheduled | catchUp => rfl

theorem State.reserved_arbitrate : s.arbitrate.reserved = s.reserved := by
  unfold State.arbitrate
  split <;> simp

theorem State.reserved_grantIf (cs : List Candidate) : (s.grantIf cs).reserved = s.reserved := by
  unfold State.grantIf
  split
  · split <;> simp
  · rfl

/-! ### Requests (R103, R104, R161) -/

theorem State.reserved_applyPending {apply : Request → State → Applied}
    (ha : ∀ (r : Request) (s : State), s.TablesStep (apply r s).1) (c : PendingChange)
    (r : Request) : (s.applyPending apply c r).reserved = s.reserved :=
  calc (s.applyPending apply c r).reserved
    _ = (State.grantOk r (apply r s).2 ((apply r s).1.reopen c)).reserved :=
      State.reserved_givePlaces
    _ = (apply r s).1.reserved := (State.reserved_grantOk ..).trans (State.reserved_reopen c)
    _ = s.reserved := State.reserved_tablesStep (ha r s)

theorem State.reserved_carryChange {apply : Request → State → Applied}
    (ha : ∀ (r : Request) (s : State), s.TablesStep (apply r s).1) (ds : List Nat) (r : Request) :
    (s.carryChange apply ds r).reserved = s.reserved := by
  unfold State.carryChange
  split
  · exact (State.reserved_grantOk ..).trans (State.reserved_tablesStep (ha r s))
  · split
    · exact State.reserved_applyPending ha _ r
    · rfl

/-- The service of the head keeps what its carrying out and its refusal keep. -/
theorem State.serve_keeps {P : State → Prop} {mine : Request → Bool}
    {check : State → Request → Option Result} {carry : Request → State → State} (hs : P s)
    (hx : ∀ r x, P (s.refuse r x)) (hk : ∀ r, P (carry r s)) : P (s.serve mine check carry) := by
  rcases State.serve_cases mine check carry s with h | ⟨r, -, -, ⟨x, -, h⟩ | ⟨-, h⟩⟩ <;> rw [h]
  · exact hs
  · exact hx r x
  · exact hk r

theorem serve_reserved {mine : Request → Bool} {check : State → Request → Option Result}
    {carry : Request → State → State} (hk : ∀ r, (carry r s).reserved = s.reserved) :
    Keeps (fun t => t.reserved = s.reserved) (.next (s.serve mine check carry)) :=
  keeps_next (State.serve_keeps (P := fun t => t.reserved = s.reserved) rfl
    (fun r x => State.reserved_answer r x _) hk)

theorem serve_report_reserved {mine : Request → Bool} {check : State → Request → Option Result}
    {of : Request → State → Contents} :
    Keeps (fun t => t.reserved = s.reserved) (.next (s.serve mine check (State.report of))) :=
  serve_reserved fun r => State.reserved_grantOk r (of r s)

theorem serve_change_reserved {mine : Request → Bool} {check : State → Request → Option Result}
    {apply : Request → State → Applied} {ds : Request → State → List Nat}
    (ha : ∀ (r : Request) (s : State), s.TablesStep (apply r s).1) :
    Keeps (fun t => t.reserved = s.reserved)
      (.next (s.serve mine check fun r s => s.carryChange apply (ds r s) r)) :=
  serve_reserved fun r => State.reserved_carryChange ha (ds r s) r

/-! ### Command by command -/

/-- A command of the running part keeps what its effect keeps. -/
theorem State.whenRunning_keeps {P : State → Prop} {f : State → State} (hs : P s) (hf : P (f s)) :
    P (s.whenRunning f) := by
  unfold State.whenRunning
  split
  · exact hf
  · exact hs

theorem whenRunning_reserved {f : State → State} (hf : (f s).reserved = s.reserved) :
    Keeps (fun t => t.reserved = s.reserved) (.next (s.whenRunning f)) :=
  keeps_next (State.whenRunning_keeps (P := fun t => t.reserved = s.reserved) rfl hf)

theorem execIntakeFrameTake_reserved (c0 c1 c2 c3 : Option ChainFrame) :
    Keeps (fun t => t.reserved = s.reserved) (execIntakeFrameTake c0 c1 c2 c3 s) := by
  refine whenRunning_reserved ?_
  split
  · exact State.reserved_takeFrame ..
  · rfl

theorem execMergeEntryExpiry_reserved (sensor : SensorId) (count : FrameCount) :
    Keeps (fun t => t.reserved = s.reserved) (execMergeEntryExpiry sensor count s) := by
  refine whenRunning_reserved ?_
  split
  · split
    · exact State.reserved_expire _
    · rfl
  · rfl

theorem execEstimateStart_reserved :
    Keeps (fun t => t.reserved = s.reserved) (execEstimateStart s) := by
  refine whenRunning_reserved ?_
  split
  · exact State.reserved_startFrame _
  · rfl

theorem execEstimateCompletion_reserved (bin : Nat) :
    Keeps (fun t => t.reserved = s.reserved) (execEstimateCompletion bin s) := by
  refine whenRunning_reserved ?_
  split
  · exact State.reserved_complete _
  · rfl

theorem execSilenceSweep_reserved :
    Keeps (fun t => t.reserved = s.reserved) (execSilenceSweep s) := by
  refine whenRunning_reserved ?_
  dsimp only
  split
  · split
    · exact State.reserved_sweep
    · rfl
  · rfl

theorem execManagementFrame_reserved (body : List Byte) :
    Keeps (fun t => t.reserved = s.reserved) (execManagementFrame body s) := by
  refine whenRunning_reserved ?_
  split
  · exact State.reserved_arrive _
  · exact State.reserved_raiseGroup _

theorem execBeaconLossExpiry_reserved :
    Keeps (fun t => t.reserved = s.reserved) (execBeaconLossExpiry s) := by
  refine whenRunning_reserved ?_
  split <;> rfl

theorem execChangeApplication_reserved :
    Keeps (fun t => t.reserved = s.reserved) (execChangeApplication s) := by
  refine whenRunning_reserved ?_
  split
  · split
    · exact State.reserved_applyPending applyChange_tablesStep _ _
    · rfl
  · rfl

theorem execChangeTimeout_reserved :
    Keeps (fun t => t.reserved = s.reserved) (execChangeTimeout s) := by
  refine whenRunning_reserved ?_
  split
  · split
    · exact State.reserved_givePlaces
    · rfl
  · rfl

theorem execTransmissionEnd_reserved :
    Keeps (fun t => t.reserved = s.reserved) (execTransmissionEnd s) := by
  refine whenRunning_reserved ?_
  dsimp only
  split
  · exact State.reserved_arbitrate
  · rfl

theorem execGo_reserved : Keeps (fun t => t.reserved = s.reserved) (execGo s) := by
  refine whenRunning_reserved ?_
  split
  · exact State.reserved_arbitrate
  · rfl

theorem execNoticeHoldExpiry_reserved :
    Keeps (fun t => t.reserved = s.reserved) (execNoticeHoldExpiry s) := by
  refine whenRunning_reserved ?_
  split
  · exact State.reserved_arbitrate
  · rfl

theorem execSummaryTimerExpiry_reserved :
    Keeps (fun t => t.reserved = s.reserved) (execSummaryTimerExpiry s) := by
  refine whenRunning_reserved ?_
  dsimp only
  split
  · split <;> rfl
  · rfl

theorem execStoreWriteBegin_reserved :
    Keeps (fun t => t.reserved = s.reserved) (execStoreWriteBegin s) := by
  refine keeps_next ?_
  split <;> rfl

theorem execResetLineAssert_reserved :
    Keeps (fun t => t.reserved = s.reserved) (execResetLineAssert s) := by
  refine keeps_next ?_
  split
  · rfl
  · split <;> rfl

theorem execInboundFrameDiscarded_reserved (bytes : List Byte) :
    Keeps (fun t => t.reserved = s.reserved) (execInboundFrameDiscarded bytes s) := by
  refine whenRunning_reserved ?_
  split
  · exact State.reserved_raiseGroup _
  · rfl

/-- Clearing counters leaves the masks. -/
theorem State.reserved_clearCounters (sel : List (Nat × Nat)) :
    State.reserved { s with watch := s.watch.clearCounters sel } = s.reserved := by
  rw [Watch.clearCounters_frame]
  rfl

/-! ### The commands with a part of their own -/

theorem execLoadWatchMask_reserved : Keeps
    (fun t => t.reserved = { s.reserved with masks := t.reserved.masks })
    (execLoadWatchMask s) := by
  refine keeps_next (State.serve_keeps
    (P := fun t => t.reserved = { s.reserved with masks := t.reserved.masks }) rfl (fun _ _ => rfl)
    fun r => ?_)
  dsimp only
  split <;> rfl

theorem execLoadAuthority_reserved : Keeps
    (fun t => t.reserved = { s.reserved with authority := t.reserved.authority })
    (execLoadAuthority s) :=
  keeps_next (State.serve_keeps
    (P := fun t => t.reserved = { s.reserved with authority := t.reserved.authority }) rfl
    (fun _ _ => rfl) fun _ => rfl)

theorem execTimeBeacon_reserved (v : BitVec 32) : Keeps
    (fun t => t.reserved = { s.reserved with offset := t.reserved.offset }) (execTimeBeacon v s) :=
  keeps_next (State.whenRunning_keeps
    (P := fun t => t.reserved = { s.reserved with offset := t.reserved.offset }) rfl rfl)

theorem execStoreWriteEnd_reserved : Keeps
    (fun t => t.reserved = { s.reserved with stored := t.reserved.stored })
    (execStoreWriteEnd s) := by
  refine keeps_next ?_
  split <;> rfl

theorem execPowerLoss_reserved : Keeps
    (fun t => t.reserved = { s.reserved with stored := t.reserved.stored })
    (execPowerLoss s) := by
  refine keeps_next ?_
  split <;> rfl

theorem execStartComplete_reserved : Keeps
    (fun t => t.reserved = { s.reserved with inForce := t.reserved.inForce })
    (execStartComplete s) := by
  refine keeps_next ?_
  split
  · split <;> rfl
  · rfl

theorem execPowerOn_reserved :
    Keeps (fun t => t.reserved = { t.reserved with stored := s.reserved.stored })
      (execPowerOn s) := by
  refine keeps_next ?_
  split <;> rfl

/-! ### Every command -/

/-- The reserved parts after a command: those that are the command's own as it leaves them, the
others as they were before it. -/
def Reserved.changedBy (before after : Reserved) : Instr → Reserved
  | .loadWatchMask => { before with masks := after.masks }
  | .loadAuthority => { before with authority := after.authority }
  | .timeBeacon _ => { before with offset := after.offset }
  | .storeWriteEnd | .powerLoss => { before with stored := after.stored }
  | .startComplete => { before with inForce := after.inForce }
  | .powerOn => { after with stored := before.stored }
  | _ => before

/-- Every command leaves the reserved parts that are not its own. -/
theorem exec_reserved (s : State) (c : Instr) :
    Keeps (fun t => t.reserved = s.reserved.changedBy t.reserved c) (exec c s) := by
  cases c with
  | intakeFrameTake c0 c1 c2 c3 => exact execIntakeFrameTake_reserved c0 c1 c2 c3
  | mergeEntryExpiry sensor count => exact execMergeEntryExpiry_reserved sensor count
  | admissionPlaceGrant => exact whenRunning_reserved State.reserved_givePlaces
  | estimateStart => exact execEstimateStart_reserved
  | estimateCompletion bin => exact execEstimateCompletion_reserved bin
  | silenceSweep => exact execSilenceSweep_reserved
  | managementFrame body => exact execManagementFrame_reserved body
  | pause => exact whenRunning_reserved rfl
  | go => exact execGo_reserved
  | loadPrefix => exact serve_change_reserved applyLoadPrefix_tablesStep
  | clearPrefix => exact serve_change_reserved applyClearPrefix_tablesStep
  | loadDevice => exact serve_change_reserved applyLoadDevice_tablesStep
  | clearDevice => exact serve_change_reserved applyClearDevice_tablesStep
  | loadBin => exact serve_change_reserved applyLoadBin_tablesStep
  | retireBin => exact serve_change_reserved applyRetireBin_tablesStep
  | clearDistrict => exact serve_change_reserved applyClearDistrict_tablesStep
  | loadProfile => exact serve_change_reserved applyLoadProfile_tablesStep
  | readPrefix | readDeviceByEntry | readDeviceBySensor | readBin | readProfile | readOutcomes
  | readCounters | readAuthority | readConfig => exact serve_report_reserved
  | requestDueList | storeConfig => exact serve_reserved fun _ => State.reserved_answer ..
  | restart | unknownOp => exact serve_reserved fun _ => rfl
  | readCountersReset | resetCounters =>
    exact serve_reserved fun r =>
      (State.reserved_grantOk r _).trans (State.reserved_clearCounters _)
  | changeApplication => exact execChangeApplication_reserved
  | changeTimeout => exact execChangeTimeout_reserved
  | transmissionEnd => exact execTransmissionEnd_reserved
  | startGrant | responseGrant | noticeGrant | summaryGrant | catchUpSummary =>
    exact whenRunning_reserved (State.reserved_grantIf _)
  | noticeHoldExpiry => exact execNoticeHoldExpiry_reserved
  | summaryTimerExpiry => exact execSummaryTimerExpiry_reserved
  | beaconLossExpiry => exact execBeaconLossExpiry_reserved
  | storeWriteBegin => exact execStoreWriteBegin_reserved
  | resetLineAssert => exact execResetLineAssert_reserved
  | resetLineRelease => exact keeps_next rfl
  | inboundFrameDiscarded bytes => exact execInboundFrameDiscarded_reserved bytes
  | loadWatchMask => exact execLoadWatchMask_reserved
  | loadAuthority => exact execLoadAuthority_reserved
  | timeBeacon v => exact execTimeBeacon_reserved v
  | storeWriteEnd => exact execStoreWriteEnd_reserved
  | powerLoss => exact execPowerLoss_reserved
  | powerOn => exact execPowerOn_reserved
  | startComplete => exact execStartComplete_reserved

namespace Reserved

variable {before after : Reserved} {c : Instr}

theorem masks_changedBy (hc : c ≠ .loadWatchMask) (hp : c ≠ .powerOn) :
    (before.changedBy after c).masks = before.masks := by
  cases c with
  | loadWatchMask => exact absurd rfl hc
  | powerOn => exact absurd rfl hp
  | _ => rfl

theorem authority_changedBy (hc : c ≠ .loadAuthority) (hp : c ≠ .powerOn) :
    (before.changedBy after c).authority = before.authority := by
  cases c with
  | loadAuthority => exact absurd rfl hc
  | powerOn => exact absurd rfl hp
  | _ => rfl

theorem stored_changedBy (hc : c ≠ .storeWriteEnd) (hp : c ≠ .powerLoss) :
    (before.changedBy after c).stored = before.stored := by
  cases c with
  | storeWriteEnd => exact absurd rfl hc
  | powerLoss => exact absurd rfl hp
  | _ => rfl

theorem inForce_changedBy (hc : c ≠ .startComplete) (hp : c ≠ .powerOn) :
    (before.changedBy after c).inForce = before.inForce := by
  cases c with
  | startComplete => exact absurd rfl hc
  | powerOn => exact absurd rfl hp
  | _ => rfl

theorem localMs_changedBy (hp : c ≠ .powerOn) :
    (before.changedBy after c).localMs = before.localMs := by
  cases c with
  | powerOn => exact absurd rfl hp
  | _ => rfl

theorem offset_changedBy (hc : ∀ v, c ≠ .timeBeacon v) (hp : c ≠ .powerOn) :
    (before.changedBy after c).offset = before.offset := by
  cases c with
  | timeBeacon v => exact absurd rfl (hc v)
  | powerOn => exact absurd rfl hp
  | _ => rfl

end Reserved

/-- Settles O59: the tables and the assignments by `exec_keepsAssignments`, the other parts by
`exec_reserved`. -/
theorem stateChangesOnlyByItsOwnCommands : Obligations.StateChangesOnlyByItsOwnCommands := by
  intro c s t hcan ht
  have own := exec_reserved s c t ht
  have records := Table.wf_of_canonical hcan.records
  refine ⟨fun hc => ?_, fun hc hp => ?_, fun hc hp => ?_, fun hc hp => ?_, fun hc hp => ?_,
    fun hp => ?_, fun hc hp => ?_⟩
  · have kept := exec_keepsAssignments c hc t ht
    exact ⟨kept.translation, kept.profiles, fun b =>
      ⟨kept.mapped records b, kept.placing records b⟩⟩
  · exact (congrArg Reserved.masks own).trans (Reserved.masks_changedBy hc hp)
  · exact (congrArg Reserved.authority own).trans (Reserved.authority_changedBy hc hp)
  · have stored : t.store.parts = s.store.parts :=
      (congrArg Reserved.stored own).trans (Reserved.stored_changedBy hc hp)
    simpa only [Store.parts, StoredParts.mk.injEq] using stored
  · exact (congrArg Reserved.inForce own).trans (Reserved.inForce_changedBy hc hp)
  · exact (congrArg Reserved.localMs own).trans (Reserved.localMs_changedBy hp)
  · exact (congrArg Reserved.offset own).trans (Reserved.offset_changedBy hc hp)

end Sys2Proof.Machine
end

section
/-! PROOFS. Every step keeps the tables canonical, the timebase sound and the settings in force in
their ranges (R171, R173, R174): the relation between two states that every operation respects. -/

namespace Sys2Proof.Machine

variable {s t u : State}

/-! ### The relation -/

/-- Between two states, canonical tables stay canonical, a sound timebase stays sound, and settings
in force stay in their ranges. -/
structure State.RegularStep (s t : State) : Prop where
  tables : s.Canonical → t.Canonical
  time : s.time.Sound → t.time.Sound
  settings : s.inForce.settings.InRange → t.inForce.settings.InRange

/-- The gate block's tables are in their canonical forms. -/
structure Gates.Canonical (g : Gates) : Prop where
  states : g.states.canonical (fun _ => .opened) = true
  inFlight : g.inFlight.canonical (fun _ => 0) = true
  tallies : g.tallies.canonical (fun _ => 0) = true

/-- The watch unit's tables are in their canonical forms. -/
structure Watch.Canonical (w : Watch) : Prop where
  masks : w.masks.canonical (fun k => defaultMode (k % classCount)) = true
  counters : w.counters.canonical (fun _ => 0) = true

theorem State.Canonical.gateBlock (h : s.Canonical) : s.gates.Canonical :=
  ⟨h.gates, h.inFlight, h.tallies⟩

theorem State.Canonical.watchUnit (h : s.Canonical) : s.watch.Canonical := ⟨h.masks, h.counters⟩

namespace State.RegularStep

theorem refl (s : State) : s.RegularStep s := ⟨id, id, id⟩

theorem trans (h : s.RegularStep t) (h' : t.RegularStep u) : s.RegularStep u :=
  ⟨h'.tables ∘ h.tables, h'.time ∘ h.time, h'.settings ∘ h.settings⟩

theorem foldl {α : Type} {f : State → α → State}
    (step : ∀ (s : State) (a : α), s.RegularStep (f s a)) (l : List α) (s : State) :
    s.RegularStep (l.foldl f s) := by
  induction l generalizing s with
  | nil => exact refl s
  | cons a rest ih => exact (step s a).trans (ih (f s a))

/-- A step that leaves the timebase and what is in force. -/
theorem of_tables (h : s.Canonical → t.Canonical) (ht : t.time = s.time := by rfl)
    (hf : t.inForce = s.inForce := by rfl) : s.RegularStep t :=
  ⟨h, ht ▸ id, hf ▸ id⟩

theorem setGateBlock {g : Gates} (h : s.gates.Canonical → g.Canonical) :
    s.RegularStep { s with gates := g } :=
  of_tables fun hs =>
    have hg := h hs.gateBlock
    { hs with gates := hg.states, inFlight := hg.inFlight, tallies := hg.tallies }

theorem setWatchUnit {w : Watch} (h : s.watch.Canonical → w.Canonical) :
    s.RegularStep { s with watch := w } :=
  of_tables fun hs =>
    have hw := h hs.watchUnit
    { hs with masks := hw.masks, counters := hw.counters }

end State.RegularStep

/-! ### Gates and tallies (R99, R100) -/

namespace Gates.Canonical

variable {g : Gates}

theorem setState (h : g.Canonical) (x : GateState) (d : Nat) : (g.setState x d).Canonical :=
  { h with states := Table.canonical_write h.states d x }

theorem setStates (h : g.Canonical) (ds : List Nat) (x : GateState) :
    (g.setStates ds x).Canonical := by
  unfold Gates.setStates
  induction ds generalizing g with
  | nil => exact h
  | cons d rest ih => exact ih (h.setState x d)

theorem setCount (h : g.Canonical) (d n : Nat) : (g.setCount d n).Canonical :=
  { h with inFlight := Table.canonical_write h.inFlight d n }

theorem tallyUp (h : g.Canonical) (row place : Nat) : (g.tallyUp row place).Canonical :=
  { h with tallies := Table.canonical_write h.tallies _ _ }

theorem foldl_tallyUp (h : g.Canonical) (row : Nat) (l : List FlagDetail) :
    (l.foldl (fun g d => g.tallyUp row d.place) g).Canonical := by
  induction l generalizing g with
  | nil => exact h
  | cons d rest ih => exact ih (h.tallyUp row d.place)

theorem setChange (h : g.Canonical) (c : Option PendingChange) :
    Gates.Canonical { g with change := c } := { h with }

theorem setDeferred (h : g.Canonical) (q : List DeferredFrame) :
    Gates.Canonical { g with deferred := q } := { h with }

end Gates.Canonical

/-! ### Masks and counters (R132 to R137) -/

namespace Watch.Canonical

variable {w : Watch}

theorem setMode (h : w.Canonical) (row : Nat) {cls : Nat} (hc : cls < classCount) (m : MaskMode) :
    (w.setMode row cls m).Canonical := by
  have key : (row * classCount + cls) % classCount = cls := by
    rw [Nat.mul_add_mod_self_right, Nat.mod_eq_of_lt hc]
  refine { h with masks := ?_ }
  have written := Table.canonical_write h.masks (row * classCount + cls) m
  rwa [key] at written

theorem setModes (h : w.Canonical) {sel : List (Nat × Nat)} (hsel : ∀ x ∈ sel, x.2 < classCount)
    (m : MaskMode) : (w.setModes sel m).Canonical := by
  unfold Watch.setModes
  induction sel generalizing w with
  | nil => exact h
  | cons x rest ih =>
    obtain ⟨hx, hrest⟩ := List.forall_mem_cons.1 hsel
    exact ih (h.setMode x.1 hx m) hrest

theorem setCounter (h : w.Canonical) (row cls n : Nat) : (w.setCounter row cls n).Canonical :=
  { h with counters := Table.canonical_write h.counters _ n }

theorem clearCounters (h : w.Canonical) (sel : List (Nat × Nat)) :
    (w.clearCounters sel).Canonical := by
  unfold Watch.clearCounters
  induction sel generalizing w with
  | nil => exact h
  | cons x rest ih => exact ih (h.setCounter x.1 x.2 0)

theorem countUp (h : w.Canonical) (row cls : Nat) : (w.countUp row cls).Canonical := by
  unfold Watch.countUp
  split
  · exact h.setCounter ..
  · exact h

theorem take (h : w.Canonical) (t : Timebase) (c : Bool) (e : Event) :
    (w.take t c e).Canonical := by
  unfold Watch.take
  split
  · exact h
  · exact h.countUp ..
  · split
    · exact { h with }
    · exact h.countUp ..

theorem takeGroup (h : w.Canonical) (t : Timebase) (es : List Event) :
    (w.takeGroup t es).Canonical :=
  Watch.takeGroup_keeps (P := Watch.Canonical) t es (fun c _ e hv => hv.take t c e) w h

end Watch.Canonical

/-! ### The tables, outcomes and events -/

namespace State.RegularStep

theorem setRecord (b : Nat) (r : BinRecord) : s.RegularStep (s.setRecord b r) :=
  of_tables fun h => { h with records := Table.canonical_write h.records b r }

theorem setLearned (b : Nat) (c : Option Int) : s.RegularStep (s.setLearned b c) :=
  of_tables fun h => { h with calibration := Table.wf_set h.calibration b c }

theorem setPrefix (p : Nat) (seg : Option Segment) : s.RegularStep (s.setPrefix p seg) :=
  of_tables fun h => { h with prefixes := Table.wf_set h.prefixes p seg }

theorem setDevice (e : Nat) (m : Option Mapping) : s.RegularStep (s.setDevice e m) :=
  of_tables fun h => { h with devices := Table.wf_set h.devices e m }

theorem setProfile (n : Nat) (p : Option Profile) : s.RegularStep (s.setProfile n p) :=
  of_tables fun h => { h with profiles := Table.wf_set h.profiles n p }

theorem setAuthority (c : Nat) (a : Authority) : s.RegularStep (s.setAuthority c a) :=
  of_tables fun h => { h with authority := Table.canonical_write h.authority c a }

theorem setDue (q : List DueEntry) : s.RegularStep { s with due := q } :=
  of_tables fun h => { h with }

theorem setIntake (i : Intake) : s.RegularStep { s with intake := i } :=
  of_tables fun h => { h with }

theorem setSweepDue (d : Option Nat) :
    s.RegularStep { s with bins := { s.bins with sweepDue := d } } := of_tables fun h => { h with }

theorem setComposer (c : Composer) : s.RegularStep { s with composer := c } :=
  of_tables fun h => { h with }

theorem setQueue (q : List Request) :
    s.RegularStep { s with management := { s.management with queue := q } } :=
  of_tables fun h => { h with }

theorem setStore (st : Store) : s.RegularStep { s with store := st } :=
  of_tables fun h => { h with }

theorem raiseGroup (es : List Event) : s.RegularStep (s.raiseGroup es) :=
  setWatchUnit fun h => h.takeGroup ..

theorem endFrame (c : WatchClass) (row : Nat) (bin : Option Nat) (p : List Byte) (o : OutcomeCode) :
    s.RegularStep (s.endFrame c row bin p o) :=
  (setGateBlock fun h => h.tallyUp row o.place).trans (raiseGroup _)

theorem tallyCompletion (row : Nat) (l : List FlagDetail) :
    s.RegularStep (s.tallyCompletion row l) := by
  unfold State.tallyCompletion
  split
  · exact setGateBlock fun h => h.tallyUp ..
  · exact setGateBlock fun h => (h.tallyUp ..).foldl_tallyUp row l

/-! ### Intake and admission (R7 to R15, R101) -/

theorem gateTest (f : Frame) (d : Nat) : s.RegularStep (s.gateTest f d) := by
  rcases State.gateTest_cases f d s with ⟨-, h⟩ | ⟨-, -, h⟩ | ⟨-, -, h⟩ <;> rw [h]
  · exact setIntake _
  · exact (setGateBlock fun h => h.setDeferred _).trans (endFrame ..)
  · exact endFrame ..

theorem handOn (e : MergeEntry) : s.RegularStep (s.handOn e) := by
  unfold State.handOn
  split
  · exact endFrame ..
  · exact gateTest ..

theorem release (e : MergeEntry) : s.RegularStep (s.release e) := (setIntake _).trans (handOn e)

theorem expire (e : MergeEntry) : s.RegularStep (s.expire e) := by
  unfold State.expire
  split
  · exact release e
  · exact setIntake _

theorem openEntry (q : Nat) (p : List Byte) : s.RegularStep (s.openEntry q p) := by
  unfold State.openEntry
  dsimp only
  split
  · exact (setIntake _).trans (expire _)
  · exact setIntake _

theorem openFull (q : Nat) (p : List Byte) : s.RegularStep (s.openFull q p) := by
  unfold State.openFull
  split
  · exact openEntry q p
  · split
    · exact (release _).trans (openEntry q p)
    · exact endFrame ..

theorem intoWindow (q : Nat) (p : List Byte) : s.RegularStep (s.intoWindow q p) := by
  unfold State.intoWindow
  split
  · exact setIntake _
  · split
    · exact openEntry q p
    · exact openFull q p

theorem takeFrame (chain : Nat) (f : ChainFrame) : s.RegularStep (s.takeFrame chain f) := by
  unfold State.takeFrame
  dsimp only
  split
  · exact ((setIntake _).trans (setGateBlock fun h => h.tallyUp ..)).trans (raiseGroup _)
  · exact (setIntake _).trans (intoWindow _ _)

theorem grantPlace (h : s.grantPlace = some t) : s.RegularStep t := by
  obtain ⟨-, ⟨d, -, rfl⟩ | ⟨-, e, -, rfl⟩⟩ := State.grantPlace_cases h
  · exact (setGateBlock fun h => h.setDeferred _).trans (setIntake _)
  · exact release e

theorem givePlaces : s.RegularStep s.givePlaces :=
  State.givePlaces_keeps (P := s.RegularStep) (fun _ _ hg hs => hs.trans (grantPlace hg)) (refl s)

/-! ### Estimates and the sweep (R35, R44, R71, R72, R115 to R118) -/

theorem occupy (f : Frame) (d : Nat) (gap : Option Nat) : s.RegularStep (s.occupy f d gap) :=
  (setGateBlock fun h => h.setCount ..).trans (of_tables fun h => { h with })

theorem startFrame (f : Frame) : s.RegularStep (s.startFrame f) := by
  unfold State.startFrame
  split
  · exact endFrame ..
  · split
    · exact occupy ..
    · exact endFrame ..
    · exact endFrame ..

theorem placeDue (e : DueEntry) (q : List DueEntry) : s.RegularStep (s.placeDue e q) :=
  (setDue _).trans (setRecord _ _)

theorem handRemoval (b : Nat) : s.RegularStep (s.handRemoval b) := (setDue _).trans (setRecord _ _)

theorem handPrediction (e : DueEntry) : s.RegularStep (s.handPrediction e) := by
  rcases State.handPrediction_cases e s with ⟨-, h⟩ | ⟨_, -, -, -, h⟩ | ⟨_, -, -, -, h⟩ <;> rw [h]
  · exact placeDue e _
  · exact (setRecord _ _).trans (placeDue e _)
  · exact (setDue _).trans (setRecord _ _)

theorem handDue (b d : Nat) (x : DueUpdate) : s.RegularStep (s.handDue b d x) := by
  cases x with
  | nothing => exact refl s
  | removal => exact handRemoval b
  | prediction due isOver coarse => exact handPrediction _

theorem vacate (e : Estimate) : s.RegularStep (s.vacate e) :=
  (setGateBlock fun h => h.setCount ..).trans (of_tables fun h => { h with })

/-- A set silent or clear silent where a test asks for it (R118). -/
theorem handSilentIf (p : Prop) [Decidable p] (b : Nat) (f : Bool) :
    s.RegularStep (if p then s.handSilent b f else s) := by
  split
  · exact setDue _
  · exact refl s

theorem applyCompletion (e : Estimate) (c : Completion) : s.RegularStep (s.applyCompletion e c) :=
  (setRecord _ _).trans <| (setLearned _ _).trans <|
    (handSilentIf (c.clearSilent = true) _ _).trans <| (handDue ..).trans <|
    (tallyCompletion ..).trans <| (raiseGroup _).trans (vacate e)

theorem complete (e : Estimate) : s.RegularStep (s.complete e) := by
  unfold State.complete
  split
  · exact applyCompletion e _
  · exact vacate e

theorem sweepBin (b : Nat) : s.RegularStep (s.sweepBin b) := by
  unfold State.sweepBin
  split
  · next a _ =>
    split
    · exact (setRecord _ _).trans ((handSilentIf (a.state = .active) _ _).trans (raiseGroup _))
    · exact refl s
  · exact refl s

theorem sweep : s.RegularStep s.sweep := foldl (fun _ b => sweepBin b) _ s

/-! ### The changes of the tables (R26 to R29, R46 to R52, R63 to R65) -/

/-- The clearing of a calibration entry where a change asks for it. -/
theorem unlearn (b : Nat) (f : Bool) : s.RegularStep (if f then s.setLearned b none else s) := by
  split
  · exact setLearned b none
  · exact refl s

theorem applyLoadDevice (r : Request) : s.RegularStep (applyLoadDevice r s).1 := by
  unfold Machine.applyLoadDevice
  dsimp only
  cases s.otherBin (r.arg16 0) (r.arg16 2) with
  | none => exact (setDevice _ _).trans (setRecord _ _)
  | some old => exact (setRecord _ _).trans ((setDevice _ _).trans (setRecord _ _))

theorem applyClearDevice (r : Request) : s.RegularStep (applyClearDevice r s).1 := by
  unfold Machine.applyClearDevice
  dsimp only
  cases s.device (r.arg16 0) with
  | none => exact setDevice _ _
  | some m => exact (setRecord _ _).trans (setDevice _ _)

theorem loadKeep (b d g : Nat) (a : Assigned) : s.RegularStep (s.loadKeep b d g a) := by
  unfold State.loadKeep
  split
  · exact setRecord _ _
  · exact (setRecord _ _).trans (setDue _)

theorem applyLoadBin (r : Request) : s.RegularStep (applyLoadBin r s).1 := by
  unfold Machine.applyLoadBin
  dsimp only
  cases s.assigned (r.arg16 0) with
  | none => exact (unlearn _ (r.option 5)).trans (setRecord _ _)
  | some a =>
    dsimp only
    split
    · exact (unlearn _ (r.option 5)).trans ((setRecord _ _).trans (handRemoval _))
    · exact loadKeep ..

theorem retire (b : Nat) (f : Bool) : s.RegularStep (s.retire b f) := by
  unfold State.retire
  cases (s.record b).mapped with
  | none => exact (unlearn b f).trans ((setDue _).trans (setRecord _ _))
  | some e =>
    exact (setDevice e none).trans ((unlearn b f).trans ((setDue _).trans (setRecord _ _)))

theorem applyClearDistrict (r : Request) : s.RegularStep (applyClearDistrict r s).1 :=
  foldl (fun _ b => retire b _) _ s

theorem resetBin (b : Nat) : s.RegularStep (s.resetBin b) := by
  unfold State.resetBin
  split
  · exact (setRecord _ _).trans (handRemoval b)
  · exact refl s

theorem applyLoadProfile (r : Request) : s.RegularStep (applyLoadProfile r s).1 := by
  unfold Machine.applyLoadProfile
  split
  · exact refl s
  · exact (setProfile _ _).trans (foldl (fun _ b => resetBin b) _ _)

theorem applyChange (r : Request) : s.RegularStep (applyChange r s).1 := by
  unfold Machine.applyChange
  split
  · exact setPrefix _ _
  · exact setPrefix _ _
  · exact applyLoadDevice r
  · exact applyClearDevice r
  · exact applyLoadBin r
  · exact retire _ _
  · exact applyClearDistrict r
  · exact applyLoadProfile r
  · exact refl s

/-! ### Requests (R103, R104, R151, R160, R161) -/

theorem answer (r : Request) (x : Result) (l : List Contents) : s.RegularStep (s.answer r x l) :=
  (setQueue _).trans (setComposer _)

theorem arrive (r : Request) : s.RegularStep (s.arrive r) := by
  unfold State.arrive
  split
  · exact setQueue _
  · split
    · exact raiseGroup _
    · exact setComposer _

theorem setGates (ds : List Nat) : s.RegularStep (s.setGates ds) :=
  setGateBlock fun h => (h.setStates ds .changing).setChange _

theorem reopen (c : PendingChange) : s.RegularStep (s.reopen c) :=
  setGateBlock fun h => (h.setStates c.districts .opened).setChange none

theorem applyPending {apply : Request → State → Applied}
    (ha : ∀ (r : Request) (s : State), s.RegularStep (apply r s).1) (c : PendingChange)
    (r : Request) : s.RegularStep (s.applyPending apply c r) :=
  (ha r s).trans <| (reopen c).trans <| (answer ..).trans givePlaces

theorem carryChange {apply : Request → State → Applied}
    (ha : ∀ (r : Request) (s : State), s.RegularStep (apply r s).1) (ds : List Nat) (r : Request) :
    s.RegularStep (s.carryChange apply ds r) := by
  unfold State.carryChange
  split
  · exact (ha r s).trans (answer ..)
  · split
    · exact (setGates ds).trans (applyPending ha _ r)
    · exact setGates ds

theorem serve {mine : Request → Bool} {check : State → Request → Option Result}
    {carry : Request → State → State} (hk : ∀ r, s.RegularStep (carry r s)) :
    Keeps s.RegularStep (.next (s.serve mine check carry)) :=
  keeps_next (State.serve_keeps (refl s) (fun r x => answer r x _) hk)

theorem serve_answer {mine : Request → Bool} {check : State → Request → Option Result}
    {result : Request → State → Result} {of : Request → State → List Contents} :
    Keeps s.RegularStep (.next (s.serve mine check fun r s => s.answer r (result r s) (of r s))) :=
  serve fun r => answer r (result r s) (of r s)

theorem serve_change {mine : Request → Bool} {check : State → Request → Option Result}
    {apply : Request → State → Applied} {ds : Request → State → List Nat}
    (ha : ∀ (r : Request) (s : State), s.RegularStep (apply r s).1) :
    Keeps s.RegularStep (.next (s.serve mine check fun r s => s.carryChange apply (ds r s) r)) :=
  serve fun r => carryChange ha (ds r s) r

/-! ### The link (R150 to R156) -/

theorem setNotices (l : List NoticeRecord) :
    s.RegularStep { s with watch := { s.watch with notices := l } } := of_tables fun h => { h with }

theorem grant (c : Candidate) : s.RegularStep (s.grant c) := by
  cases c with
  | response =>
    show s.RegularStep s.grantResponse
    unfold State.grantResponse
    split
    · exact refl s
    · exact setComposer _
  | notice => exact (setNotices _).trans (setComposer _)
  | start | forced | scheduled | catchUp => exact setComposer _

theorem arbitrate : s.RegularStep s.arbitrate := by
  unfold State.arbitrate
  split
  · exact grant _
  · exact refl s

theorem grantIf (cs : List Candidate) : s.RegularStep (s.grantIf cs) := by
  unfold State.grantIf
  split
  · split
    · exact grant _
    · exact refl s
  · exact refl s

end State.RegularStep

/-! ### The timebase, starts and power (R171 to R179) -/

theorem Timebase.Sound.restarted {x : Timebase} (h : x.Sound) : x.restarted.Sound where
  unset hu := h.unset (by
    unfold Timebase.restarted at hu
    dsimp only at hu
    split at hu
    · cases hu
    · exact hu)
  running hr := by cases hr

/-- A beacon takes the part to SYNCED, whatever the timebase was (R172). -/
theorem Timebase.sound_beacon (x : Timebase) (v : BitVec 32) : (x.beacon v).Sound where
  unset hu := by cases hu
  running _ := rfl

/-- In FREE-RUN with the loss timer stopped a timebase is sound (R173). -/
theorem Timebase.sound_freeRun (x : Timebase) :
    Timebase.Sound { x with state := .freeRun, lossRunning := false } where
  unset hu := by cases hu
  running hr := by cases hr

/-- What a start puts in force lies in its ranges, whatever the store holds (R174, R175). -/
theorem Store.putInForce_inRange (st : Store) (cause : StartCause) :
    (st.putInForce cause).settings.InRange := by
  unfold Store.putInForce
  split
  · exact factorySettings_inRange
  · exact Settings.clamped_inRange _

namespace State.RegularStep

theorem restarted (cause : StartCause) : s.RegularStep (s.restarted cause) where
  tables h := { h with gates := rfl, inFlight := rfl, tallies := rfl, counters := rfl }
  time h := h.restarted
  settings := id

theorem poweredOn : s.RegularStep s.poweredOn where
  tables _ := { reset_canonical with }
  time _ := ⟨fun _ => ⟨rfl, rfl⟩, fun h => by cases h⟩
  settings _ := factorySettings_inRange

theorem started (cause : StartCause) : s.RegularStep (s.started cause) where
  tables h := { h with }
  time := id
  settings _ := Store.putInForce_inRange _ _

/-- The clock and a store write that goes on reach no table, and the timebase only in local time
(R171). -/
theorem tick : s.RegularStep s.tick := by
  unfold State.tick
  split
  · exact ⟨fun h => { h with }, fun h => { h with }, id⟩
  · exact refl s

theorem whenRunning {f : State → State} (h : s.RegularStep (f s)) :
    Keeps s.RegularStep (.next (s.whenRunning f)) :=
  keeps_next (State.whenRunning_keeps (refl s) h)

end State.RegularStep
end Sys2Proof.Machine
end

section
/-! PROOFS. Every command respects the relation of regular steps, and so does every step (R171,
R173, R174). -/

namespace Sys2Proof.Machine

open State.RegularStep

variable {s : State}

/-! ### The uplink commands -/

theorem execIntakeFrameTake_regular (c0 c1 c2 c3 : Option ChainFrame) :
    Keeps s.RegularStep (execIntakeFrameTake c0 c1 c2 c3 s) := by
  refine whenRunning ?_
  split
  · exact takeFrame ..
  · exact .refl s

theorem execMergeEntryExpiry_regular (sensor : SensorId) (count : FrameCount) :
    Keeps s.RegularStep (execMergeEntryExpiry sensor count s) := by
  refine whenRunning ?_
  split
  · split
    · exact expire _
    · exact .refl s
  · exact .refl s

theorem execEstimateStart_regular : Keeps s.RegularStep (execEstimateStart s) := by
  refine whenRunning ?_
  split
  · exact (setIntake _).trans (startFrame _)
  · exact .refl s

theorem execEstimateCompletion_regular (bin : Nat) :
    Keeps s.RegularStep (execEstimateCompletion bin s) := by
  refine whenRunning ?_
  split
  · exact complete _
  · exact .refl s

theorem execSilenceSweep_regular : Keeps s.RegularStep (execSilenceSweep s) := by
  refine whenRunning ?_
  dsimp only
  split
  · split
    · exact sweep.trans (setSweepDue _)
    · exact .refl s
  · exact .refl s

/-! ### The management interpreter -/

theorem execManagementFrame_regular (body : List Byte) :
    Keeps s.RegularStep (execManagementFrame body s) := by
  refine whenRunning ?_
  split
  · exact arrive _
  · exact raiseGroup _

theorem execChangeApplication_regular : Keeps s.RegularStep (execChangeApplication s) := by
  refine whenRunning ?_
  split
  · split
    · exact applyPending (fun r _ => .applyChange r) _ _
    · exact .refl s
  · exact .refl s

theorem execChangeTimeout_regular : Keeps s.RegularStep (execChangeTimeout s) := by
  refine whenRunning ?_
  split
  · split
    · exact (reopen _).trans ((answer ..).trans givePlaces)
    · exact .refl s
  · exact .refl s

theorem execLoadWatchMask_regular : Keeps s.RegularStep (execLoadWatchMask s) := by
  refine serve fun _ => ?_
  split
  · exact (setWatchUnit fun h => h.setModes (fun _ => cls_lt_of_mem_selection) _).trans (answer ..)
  · exact answer ..

/-- A request that clears counters and answers (R143). -/
theorem serve_clearCounters_regular {mine : Request → Bool}
    {check : State → Request → Option Result} {of : Request → State → Contents}
    {sel : Request → List (Nat × Nat)} :
    Keeps s.RegularStep (.next (s.serve mine check fun r s =>
      State.grantOk r (of r s) { s with watch := s.watch.clearCounters (sel r) })) :=
  serve fun _ => (setWatchUnit fun h => h.clearCounters _).trans (answer ..)

/-! ### The composer and the timers -/

theorem execTransmissionEnd_regular : Keeps s.RegularStep (execTransmissionEnd s) := by
  refine whenRunning ?_
  dsimp only
  split
  · exact (setComposer _).trans arbitrate
  · exact .refl s

theorem execGo_regular : Keeps s.RegularStep (execGo s) := by
  refine whenRunning ?_
  split
  · exact (setComposer _).trans arbitrate
  · exact .refl s

theorem execNoticeHoldExpiry_regular : Keeps s.RegularStep (execNoticeHoldExpiry s) := by
  refine whenRunning ?_
  split
  · exact arbitrate
  · exact .refl s

theorem execSummaryTimerExpiry_regular : Keeps s.RegularStep (execSummaryTimerExpiry s) := by
  refine whenRunning ?_
  dsimp only
  split
  · split
    · exact setComposer _
    · exact .refl s
  · exact .refl s

theorem execTimeBeacon_regular (v : BitVec 32) : Keeps s.RegularStep (execTimeBeacon v s) :=
  whenRunning ⟨fun h => { h with }, fun _ => Timebase.sound_beacon _ v, id⟩

theorem execBeaconLossExpiry_regular : Keeps s.RegularStep (execBeaconLossExpiry s) := by
  refine whenRunning ?_
  split
  · exact ⟨fun h => { h with }, fun _ => Timebase.sound_freeRun _, id⟩
  · exact .refl s

/-! ### The store, power and starts -/

theorem execStoreWriteBegin_regular : Keeps s.RegularStep (execStoreWriteBegin s) := by
  refine keeps_next ?_
  split
  · exact setStore _
  · exact .refl s

theorem execStoreWriteEnd_regular : Keeps s.RegularStep (execStoreWriteEnd s) := by
  refine keeps_next ?_
  split
  · exact setStore _
  · exact .refl s

theorem execPowerOn_regular : Keeps s.RegularStep (execPowerOn s) := by
  refine keeps_next ?_
  split
  · exact .refl s
  · exact poweredOn

theorem execPowerLoss_regular : Keeps s.RegularStep (execPowerLoss s) := by
  refine keeps_next ?_
  split
  · exact of_tables fun h => { h with }
  · exact .refl s

theorem setResetLine_regular (f : Bool) : s.RegularStep { s with resetLine := f } :=
  of_tables fun h => { h with }

theorem execResetLineAssert_regular : Keeps s.RegularStep (execResetLineAssert s) := by
  refine keeps_next ?_
  split
  · exact .refl s
  · split
    · exact (restarted .resetLine).trans (setResetLine_regular true)
    · exact setResetLine_regular true

theorem execStartComplete_regular : Keeps s.RegularStep (execStartComplete s) := by
  refine keeps_next ?_
  split
  · split
    · exact started _
    · exact .refl s
  · exact .refl s

theorem execInboundFrameDiscarded_regular (bytes : List Byte) :
    Keeps s.RegularStep (execInboundFrameDiscarded bytes s) := by
  refine whenRunning ?_
  split
  · exact raiseGroup _
  · exact .refl s

/-! ### Every command and every step -/

/-- Every command is a regular step. -/
theorem exec_regular (c : Instr) : Keeps s.RegularStep (exec c s) := by
  cases c with
  | intakeFrameTake c0 c1 c2 c3 => exact execIntakeFrameTake_regular c0 c1 c2 c3
  | mergeEntryExpiry sensor count => exact execMergeEntryExpiry_regular sensor count
  | admissionPlaceGrant => exact whenRunning givePlaces
  | estimateStart => exact execEstimateStart_regular
  | estimateCompletion bin => exact execEstimateCompletion_regular bin
  | silenceSweep => exact execSilenceSweep_regular
  | managementFrame body => exact execManagementFrame_regular body
  | timeBeacon v => exact execTimeBeacon_regular v
  | pause => exact whenRunning (setComposer _)
  | go => exact execGo_regular
  | loadPrefix | clearPrefix => exact serve_change fun _ _ => setPrefix _ _
  | loadDevice => exact serve_change fun r _ => .applyLoadDevice r
  | clearDevice => exact serve_change fun r _ => .applyClearDevice r
  | loadBin => exact serve_change fun r _ => .applyLoadBin r
  | retireBin => exact serve_change fun _ _ => retire _ _
  | clearDistrict => exact serve_change fun r _ => .applyClearDistrict r
  | loadProfile => exact serve_change fun r _ => .applyLoadProfile r
  | readPrefix | readDeviceByEntry | readDeviceBySensor | readBin | readProfile | readOutcomes
  | readCounters | readAuthority | readConfig | requestDueList => exact serve_answer
  | loadWatchMask => exact execLoadWatchMask_regular
  | readCountersReset | resetCounters => exact serve_clearCounters_regular
  | loadAuthority =>
    exact serve fun _ => (setAuthority _ _).trans (answer ..)
  | storeConfig => exact serve fun _ => (setStore _).trans (answer ..)
  | restart => exact serve fun r => restarted (.command r.tag)
  | unknownOp => exact serve fun _ => .refl s
  | changeApplication => exact execChangeApplication_regular
  | changeTimeout => exact execChangeTimeout_regular
  | transmissionEnd => exact execTransmissionEnd_regular
  | startGrant | responseGrant | noticeGrant | summaryGrant | catchUpSummary =>
    exact whenRunning (grantIf _)
  | noticeHoldExpiry => exact execNoticeHoldExpiry_regular
  | summaryTimerExpiry => exact execSummaryTimerExpiry_regular
  | beaconLossExpiry => exact execBeaconLossExpiry_regular
  | storeWriteBegin => exact execStoreWriteBegin_regular
  | storeWriteEnd => exact execStoreWriteEnd_regular
  | powerOn => exact execPowerOn_regular
  | powerLoss => exact execPowerLoss_regular
  | resetLineAssert => exact execResetLineAssert_regular
  | resetLineRelease => exact keeps_next (setResetLine_regular false)
  | startComplete => exact execStartComplete_regular
  | inboundFrameDiscarded bytes => exact execInboundFrameDiscarded_regular bytes

/-- A step is a command, the front of the queue or the part's own, or a tick. -/
theorem step_regular : Keeps s.RegularStep (step s) := by
  unfold step
  split
  · unfold idle
    split
    · exact exec_regular _
    · exact keeps_next tick
  · next rest _ =>
    have taken : s.RegularStep { s with pending := rest } := of_tables fun h => { h with }
    exact fun t ht => taken.trans (exec_regular _ t ht)

/-- Settles O52: every command and the tick are regular steps. -/
theorem everyStepKeepsTablesTimeAndSettings : Obligations.EveryStepKeepsTablesTimeAndSettings := by
  intro s t ht
  obtain ⟨tables, time, settings⟩ := step_regular t ht
  exact ⟨tables, time, settings⟩

end Sys2Proof.Machine
end

section
/-! PROOFS. The store, starts and power (R174 to R179): a write and its cutting off, what a start
puts in force, the restart states, and the step of a part with no command waiting. -/

namespace Sys2Proof.Machine

open Sys2Proof.Statements

variable {s : State} {st : Store} {w : StoreWrite} {cause : StartCause}

theorem State.isPowered_iff : s.isPowered = true ↔ s.phase ≠ .off := by
  unfold State.isPowered
  cases s.phase <;> simp

/-! ### What the stored record puts in force (R174, R175) -/

/-- A record whose check does not match is not read (R175). -/
theorem Store.putInForce_of_mismatch (h : st.check ≠ st.settings.check) :
    st.putInForce cause = { settings := factorySettings, protection := .all, cause := cause,
                            status := .defaulted, clamps := [] } := if_pos h

/-- A record whose check matches puts in force its clamped settings and its agreed protection
(R175). -/
theorem Store.putInForce_of_match (h : st.check = st.settings.check) :
    st.putInForce cause =
      { settings := st.settings.values.clamped
        protection := (agreedProtection st.copy1 st.copy2 st.copy3).getD .all
        cause := cause
        status :=
          if (agreedProtection st.copy1 st.copy2 st.copy3).isNone then .protectMismatch
          else if st.settings.clampList ≠ [] then .clamped
          else .ok
        clamps := st.settings.clampList } := if_neg (not_not_intro h)

theorem Store.putInForce_cause (st : Store) (cause : StartCause) :
    (st.putInForce cause).cause = cause := by
  unfold Store.putInForce
  split <;> rfl

theorem agreedProtection_eq_none {c1 c2 c3 : ProtectionCopy}
    (h : ¬ (c1 = c2 ∧ c2 = c3) ∨ c1.valid = none) : agreedProtection c1 c2 c3 = none := by
  unfold agreedProtection
  split
  · next agree => exact h.resolve_left (not_not_intro agree)
  · rfl

/-- Copies that do not agree on a valid protection put ALL in force, with PROTECT_MISMATCH
(R175). -/
theorem Store.putInForce_of_disagreement (hc : st.check = st.settings.check)
    (h : ¬ (st.copy1 = st.copy2 ∧ st.copy2 = st.copy3) ∨ st.copy1.valid = none) :
    (st.putInForce cause).protection = .all ∧
      (st.putInForce cause).status = .protectMismatch := by
  rw [Store.putInForce_of_match hc, agreedProtection_eq_none h]
  exact ⟨rfl, rfl⟩

/-- Copies that agree on a valid protection put it in force, and the status says whether a setting
was clamped (R175). -/
theorem Store.putInForce_of_agreement {p : Protection} (hc : st.check = st.settings.check)
    (h12 : st.copy1 = st.copy2) (h23 : st.copy2 = st.copy3) (hp : st.copy1.valid = some p) :
    (st.putInForce cause).protection = p ∧
      (st.putInForce cause).status =
        if (st.putInForce cause).clamps = [] then .ok else .clamped := by
  have agreed : agreedProtection st.copy1 st.copy2 st.copy3 = some p :=
    (if_pos ⟨h12, h23⟩).trans hp
  rw [Store.putInForce_of_match hc, agreed]
  refine ⟨rfl, ?_⟩
  by_cases hl : st.settings.clampList = [] <;> simp [hl]

/-! ### Settings that a start leaves as they are (R174) -/

theorem Settings.ext_settingOf {v u : Settings} (h : ∀ x, settingOf v x = settingOf u x) :
    v = u := by
  cases v
  cases u
  rw [Settings.mk.injEq]
  exact ⟨h .mergeWindow, h .sweepInterval, h .dueHorizon, h .changeWait, h .noticeHold,
    h .summaryInterval, h .beaconLoss, h .credentials⟩

/-- A start leaves a setting in its range as it is. -/
theorem Settings.InRange.putInRange {v : Settings} (h : v.InRange) (x : Setting) :
    putInRange x (settingOf v x) = settingOf v x := by
  obtain ⟨⟨_, _⟩, ⟨_, _⟩, ⟨_, _⟩, ⟨_, _⟩, _, ⟨_, _⟩, ⟨_, _⟩, ⟨_, _⟩⟩ := h
  cases x <;> simp only [Statements.putInRange, settingOf] <;> omega

theorem Settings.InRange.clamped {v : Settings} (h : v.InRange) : v.clamped = v :=
  Settings.ext_settingOf fun x => (settingOf_clamped v x).trans (h.putInRange x)

/-- The clamp list is empty exactly where the stored settings lie in their ranges. -/
theorem clampList_eq_nil (block : StoredSettings) :
    block.clampList = [] ↔ block.values.InRange := by
  obtain ⟨-, adjusted⟩ := clampList_namesAdjusted block
  rw [List.eq_nil_iff_forall_not_mem]
  refine ⟨fun h => ?_, fun h x hx => (adjusted x).1 hx (h.putInRange x)⟩
  have same : block.values.clamped = block.values := Settings.ext_settingOf fun x =>
    (settingOf_clamped _ x).trans (not_not.1 fun hx => h x ((adjusted x).2 hx))
  exact same ▸ Settings.clamped_inRange block.values

/-! ### A start ends (R178) -/

theorem exec_startComplete (hp : s.phase = .starting cause) (hl : s.resetLine = false)
    (hn : s.store.waiting = none) (hw : s.store.writing = none) :
    exec .startComplete s = .next (s.started cause) := by
  show execStartComplete s = _
  simp [execStartComplete, hp, hl, hn, hw]

/-- Settles O50: the end of a start puts in force what `Store.putInForce` makes of the record, and
each clause is one case of it. -/
theorem startPutsTheRecordInForce : Obligations.StartPutsTheRecordInForce := by
  intro s cause hp hl hn hw
  refine ⟨s.store.putInForce cause, exec_startComplete hp hl hn hw, Store.putInForce_cause ..,
    Store.putInForce_inRange .., fun hc => ?_, fun hc => ?_⟩
  · rw [Store.putInForce_of_mismatch hc]
    exact ⟨rfl, rfl, rfl, rfl⟩
  · have inForce := Store.putInForce_of_match (cause := cause) hc
    have settings : (s.store.putInForce cause).settings = s.store.settings.values.clamped :=
      congrArg InForce.settings inForce
    have clamps : (s.store.putInForce cause).clamps = s.store.settings.clampList :=
      congrArg InForce.clamps inForce
    rw [settings, clamps]
    refine ⟨settingOf_clamped _, clampList_namesAdjusted _,
      fun h => ⟨h.clamped, (clampList_eq_nil _).2 h⟩, fun h => h ∘ (clampList_eq_nil _).1,
      fun p h12 h23 hv => ?_, Store.putInForce_of_disagreement hc⟩
    exact clamps ▸ Store.putInForce_of_agreement hc h12 h23 hv

/-! ### A store write (R176) -/

/-- Settles O48: the two commands in a powered part, each by the case of its own. -/
theorem storeWriteReplacesTheWholeRecord : Obligations.StoreWriteReplacesTheWholeRecord := by
  intro s hp
  have powered := State.isPowered_iff.2 hp
  refine ⟨fun record hn hw => ?_, fun w hw => ?_⟩
  · show execStoreWriteBegin s = _
    simp only [execStoreWriteBegin, powered, hn, hw]
  · show execStoreWriteEnd s = _
    simp only [execStoreWriteEnd, powered, hw]
    rfl

/-- The copy being written at a point of a write is not yet what the write brings. -/
def Store.CopyChanges (st : Store) (w : StoreWrite) : Prop :=
  (w.point = .copy1 ∧ st.copy1 ≠ w.record.protection) ∨
  (w.point = .copy2 ∧ st.copy2 ≠ w.record.protection) ∨
  (w.point = .copy3 ∧ st.copy3 ≠ w.record.protection)

/-- A cut inside a copy that changes leaves the three copies unequal. -/
theorem Store.cutOff_unequal (n : Nat) (hw : st.writing = some w) (h : st.CopyChanges w) :
    ¬ ((st.cutOff n).copy1 = (st.cutOff n).copy2 ∧ (st.cutOff n).copy2 = (st.cutOff n).copy3) := by
  rcases h with ⟨hp, hne⟩ | ⟨hp, hne⟩ | ⟨hp, hne⟩
  · simpa only [Store.cutOff, hw, hp] using cutCopy_unequal hne
  · simp only [Store.cutOff, hw, hp]
    exact fun h => cutCopy_unequal hne ⟨h.1.symm, h.1.trans h.2⟩
  · simp only [Store.cutOff, hw, hp]
    exact fun h => cutCopy_unequal hne ⟨(h.1.trans h.2).symm, h.1⟩

theorem exec_powerLoss (hp : s.phase ≠ .off) : exec .powerLoss s = .next
    { s with phase := .off, store := s.store.cutOff s.drawn, drawn := s.drawn + 1 } :=
  congrArg Host.Outcome.next (if_pos (State.isPowered_iff.2 hp))

/-- Settles O49: the store left is the store cut off, and its laws give each clause. -/
theorem powerLossCutsTheStoreWriteOff : Obligations.PowerLossCutsTheStoreWriteOff := by
  intro s hp
  refine ⟨_, exec_powerLoss hp, rfl, rfl, rfl, Store.cutOff_idle, fun w cause hw =>
    ⟨fun block => ?_, fun later => ?_, fun hc changes => ?_⟩⟩
  · obtain ⟨copy1, copy2, copy3, mismatch⟩ := Store.cutOff_block (n := s.drawn) hw block
    refine ⟨copy1, copy2, copy3, ?_⟩
    exact congrArg InForce.status (Store.putInForce_of_mismatch mismatch)
  · exact Store.cutOff_settings fun v hv => Option.some.inj (hw.symm.trans hv) ▸ later
  · have changing : s.store.CopyChanges w :=
      changes.imp id (.imp (fun h => ⟨h.1, h.2.2⟩) fun h => ⟨h.1, h.2.2.2⟩)
    have later : ∀ v, s.store.writing = some v → v.point ≠ .block := by
      intro v hv
      obtain rfl := Option.some.inj (hw.symm.trans hv)
      rcases changing with ⟨point, -⟩ | ⟨point, -⟩ | ⟨point, -⟩ <;> simp [point]
    have unequal := Store.cutOff_unequal s.drawn hw changing
    obtain ⟨settings, check⟩ := Store.cutOff_settings (n := s.drawn) later
    have matched : (s.store.cutOff s.drawn).check = (s.store.cutOff s.drawn).settings.check := by
      rw [settings, check, hc]
    exact ⟨unequal, (Store.putInForce_of_disagreement matched (.inl unequal)).2⟩

/-! ### Restarts (R173, R178, R179) -/

/-- At a restart the timebase is UNSET where it was, and else in FREE-RUN (R173). -/
theorem Timebase.restarted_eq (x : Timebase) : x.restarted =
    { x with state := if x.state = .unset then .unset else .freeRun, lossRunning := false } := by
  unfold Timebase.restarted
  cases x.state <;> rfl

/-- The restart state of every block (R17, R55, R111, R129, R145, R158, R169, R173). -/
theorem State.restarted_eq (cause : StartCause) (s : State) : s.restarted cause = { s with
    phase := .starting cause
    time := { s.time with
      state := if s.time.state = .unset then .unset else .freeRun, lossRunning := false }
    intake := { lastChain := 3, window := [], admission := [] }
    bins := { s.bins with sweepDue := none }
    slots := []
    gates := { states := .empty, inFlight := .empty, change := none, deferred := [],
               tallies := .empty }
    watch := { s.watch with counters := .empty, notices := [] }
    composer := { paused := false, responses := [], sending := none, startPending := false,
                  pendingSummary := none, debt := 0, rotation := 0, steps := 0,
                  summaryDue := none }
    management := { s.management with queue := [] } } := by
  unfold State.restarted
  rw [Timebase.restarted_eq]
  rfl

/-- Settles O42: a RESTART that passes is carried out as the restart state. -/
theorem restartKeepsTablesAndDropsQueues : Obligations.RestartKeepsTablesAndDropsQueues := by
  rintro s r ⟨hr, ho, hc⟩
  rw [headCheck, ho] at hc
  have carried : exec .restart s = .next (s.restarted (.command r.tag)) :=
    congrArg Host.Outcome.next (State.serve_passed hr (isOp_iff.2 ho) hc)
  exact ⟨_, carried, rfl, State.restarted_eq _ s⟩

/-- Settles O51: power-on gives the power-on states, the line the restart states. -/
theorem powerAndResetLineBeginAStart : Obligations.PowerAndResetLineBeginAStart := by
  refine fun s => ⟨fun hp => ?_, fun hp hl => ?_, rfl⟩
  · have unpowered : s.isPowered ≠ true := fun h => State.isPowered_iff.1 h hp
    exact congrArg Host.Outcome.next (if_neg unpowered)
  · show execResetLineAssert s = _
    simp only [execResetLineAssert, hl, State.isPowered_iff.2 hp, State.restarted_eq]
    rfl

/-! ### No command waits (R171) -/

/-- With no store write under way a tick is a millisecond of a powered part (R171). -/
theorem State.tick_of_idle_store (hp : s.phase ≠ .off) (hw : s.store.writing = none) :
    s.tick = { s with time := { s.time with localMs := s.time.localMs + 1 } } := by
  simp [State.tick, State.isPowered_iff.2 hp, hw]

/-- Settles O2: on an empty queue a step is `idle`, the part's own step or the tick. -/
theorem idleStepTakesItsOwnStepOrTicks : Obligations.IdleStepTakesItsOwnStepOrTicks := by
  intro s hq
  have idles : step s = idle s := by simp only [step, hq]
  refine ⟨fun c hc => ?_, fun hn hp hw => ?_⟩
  · rw [idles]
    simp only [idle, hc]
  · rw [idles, ← State.tick_of_idle_store hp hw]
    simp only [idle, hn]

end Sys2Proof.Machine
end

section
/-! PROOFS. The queue of commands: a step runs the command in front, and every command answers a
next state and leaves the commands that wait (log entry 3). -/

namespace Sys2Proof.Machine

variable {s t : State}

/-! ### The tables, intake and admission leave the commands that wait -/

theorem State.TablesStep.pending (h : s.TablesStep t) : t.pending = s.pending := by
  rw [h.frame]

@[simp] theorem State.release_pending (e : MergeEntry) : (s.release e).pending = s.pending := by
  rw [State.release_frame]

@[simp] theorem State.givePlaces_pending : s.givePlaces.pending = s.pending := by
  rw [State.givePlaces_frame]

@[simp] theorem State.expire_pending (e : MergeEntry) : (s.expire e).pending = s.pending := by
  unfold State.expire
  split <;> simp

@[simp] theorem State.openEntry_pending (q : Nat) (p : List Byte) :
    (s.openEntry q p).pending = s.pending := by
  unfold State.openEntry
  dsimp only
  split <;> simp

@[simp] theorem State.intoWindow_pending (q : Nat) (p : List Byte) :
    (s.intoWindow q p).pending = s.pending := by
  unfold State.intoWindow State.openFull
  split
  · exact State.setWindow_pending ..
  · split
    · exact State.openEntry_pending q p
    · split
      · exact State.openEntry_pending q p
      · split <;> simp

@[simp] theorem State.takeFrame_pending (chain : Nat) (f : ChainFrame) :
    (s.takeFrame chain f).pending = s.pending := by
  unfold State.takeFrame
  dsimp only
  split <;> simp

/-! ### Estimates and the sweep -/

@[simp] theorem State.startFrame_pending (f : Frame) : (s.startFrame f).pending = s.pending := by
  unfold State.startFrame
  split
  · exact State.endFrame_pending ..
  · split <;> simp

@[simp] theorem State.complete_pending (e : Estimate) : (s.complete e).pending = s.pending := by
  unfold State.complete
  split
  · rw [State.applyCompletion_frame]
  · exact State.vacate_pending ..

@[simp] theorem State.sweepBin_pending (b : Nat) : (s.sweepBin b).pending = s.pending := by
  unfold State.sweepBin State.makeSilent
  split
  · split
    · dsimp only
      split <;> simp
    · rfl
  · rfl

@[simp] theorem State.sweep_pending : s.sweep.pending = s.pending :=
  List.foldlRecOn (motive := fun t : State => t.pending = s.pending) _ _ rfl
    fun _ ht b _ => (State.sweepBin_pending b).trans ht

/-! ### Requests -/

@[simp] theorem State.arrive_pending (r : Request) : (s.arrive r).pending = s.pending := by
  unfold State.arrive
  split
  · rfl
  · split <;> simp

theorem State.applyPending_pending {apply : Request → State → Applied}
    (ha : ∀ (r : Request) (s : State), s.TablesStep (apply r s).1) (c : PendingChange)
    (r : Request) : (s.applyPending apply c r).pending = s.pending :=
  State.givePlaces_pending.trans (ha r s).pending

theorem State.carryChange_pending {apply : Request → State → Applied}
    (ha : ∀ (r : Request) (s : State), s.TablesStep (apply r s).1) (ds : List Nat) (r : Request) :
    (s.carryChange apply ds r).pending = s.pending := by
  unfold State.carryChange
  split
  · exact (ha r s).pending
  · split
    · exact State.applyPending_pending ha _ r
    · exact State.setGates_pending ..

/-! ### The link -/

@[simp] theorem State.grant_pending (c : Candidate) : (s.grant c).pending = s.pending := by
  cases c with
  | response =>
    show s.grantResponse.pending = s.pending
    unfold State.grantResponse
    split <;> rfl
  | start | forced | notice | scheduled | catchUp => rfl

@[simp] theorem State.arbitrate_pending : s.arbitrate.pending = s.pending := by
  unfold State.arbitrate
  split <;> simp

@[simp] theorem State.grantIf_pending (cs : List Candidate) :
    (s.grantIf cs).pending = s.pending := by
  unfold State.grantIf
  split
  · split <;> simp
  · rfl

/-! ### An outcome that keeps the queue -/

/-- An outcome is a next state in which the same commands wait. -/
def State.KeepsWaiting (s : State) (o : Host.Outcome State Fault Refusal) : Prop :=
  ∃ t, o = .next t ∧ t.pending = s.pending

namespace State.KeepsWaiting

theorem next (h : t.pending = s.pending) : s.KeepsWaiting (.next t) := ⟨t, rfl, h⟩

theorem whenRunning {f : State → State} (h : (f s).pending = s.pending) :
    s.KeepsWaiting (.next (s.whenRunning f)) :=
  next (State.whenRunning_keeps (P := fun t => t.pending = s.pending) rfl h)

theorem serve {mine : Request → Bool} {check : State → Request → Option Result}
    {carry : Request → State → State} (hk : ∀ r, (carry r s).pending = s.pending) :
    s.KeepsWaiting (.next (s.serve mine check carry)) :=
  next (State.serve_keeps (P := fun t => t.pending = s.pending) rfl
    (fun _ _ => State.answer_pending ..) hk)

theorem serve_report {mine : Request → Bool} {check : State → Request → Option Result}
    {of : Request → State → Contents} :
    s.KeepsWaiting (.next (s.serve mine check (State.report of))) :=
  serve fun _ => State.answer_pending ..

theorem serve_change {mine : Request → Bool} {check : State → Request → Option Result}
    {apply : Request → State → Applied} {ds : Request → State → List Nat}
    (ha : ∀ (r : Request) (s : State), s.TablesStep (apply r s).1) :
    s.KeepsWaiting (.next (s.serve mine check fun r s => s.carryChange apply (ds r s) r)) :=
  serve fun r => State.carryChange_pending ha (ds r s) r

end State.KeepsWaiting

open State.KeepsWaiting

/-! ### Command by command -/

theorem execIntakeFrameTake_keepsWaiting (c0 c1 c2 c3 : Option ChainFrame) :
    s.KeepsWaiting (execIntakeFrameTake c0 c1 c2 c3 s) := by
  refine whenRunning ?_
  split <;> simp

theorem execMergeEntryExpiry_keepsWaiting (sensor : SensorId) (count : FrameCount) :
    s.KeepsWaiting (execMergeEntryExpiry sensor count s) := by
  refine whenRunning ?_
  split
  · split <;> simp
  · rfl

theorem execEstimateStart_keepsWaiting : s.KeepsWaiting (execEstimateStart s) := by
  refine whenRunning ?_
  split <;> simp

theorem execEstimateCompletion_keepsWaiting (bin : Nat) :
    s.KeepsWaiting (execEstimateCompletion bin s) := by
  refine whenRunning ?_
  split <;> simp

theorem execSilenceSweep_keepsWaiting : s.KeepsWaiting (execSilenceSweep s) := by
  refine whenRunning ?_
  dsimp only
  split
  · split <;> simp
  · rfl

theorem execManagementFrame_keepsWaiting (body : List Byte) :
    s.KeepsWaiting (execManagementFrame body s) := by
  refine whenRunning ?_
  split <;> simp

theorem execLoadWatchMask_keepsWaiting : s.KeepsWaiting (execLoadWatchMask s) := by
  refine serve fun r => ?_
  split <;> rfl

theorem execChangeApplication_keepsWaiting : s.KeepsWaiting (execChangeApplication s) := by
  refine whenRunning ?_
  split
  · split
    · exact State.applyPending_pending applyChange_tablesStep _ _
    · rfl
  · rfl

theorem execChangeTimeout_keepsWaiting : s.KeepsWaiting (execChangeTimeout s) := by
  refine whenRunning ?_
  split
  · split
    · exact State.givePlaces_pending
    · rfl
  · rfl

theorem execTransmissionEnd_keepsWaiting : s.KeepsWaiting (execTransmissionEnd s) := by
  refine whenRunning ?_
  dsimp only
  split <;> simp

theorem execGo_keepsWaiting : s.KeepsWaiting (execGo s) := by
  refine whenRunning ?_
  split <;> simp

theorem execNoticeHoldExpiry_keepsWaiting : s.KeepsWaiting (execNoticeHoldExpiry s) := by
  refine whenRunning ?_
  split <;> simp

theorem execSummaryTimerExpiry_keepsWaiting : s.KeepsWaiting (execSummaryTimerExpiry s) := by
  refine whenRunning ?_
  dsimp only
  split
  · split <;> rfl
  · rfl

theorem execBeaconLossExpiry_keepsWaiting : s.KeepsWaiting (execBeaconLossExpiry s) := by
  refine whenRunning ?_
  split <;> rfl

theorem execStoreWriteBegin_keepsWaiting : s.KeepsWaiting (execStoreWriteBegin s) := by
  refine next ?_
  split <;> rfl

theorem execStoreWriteEnd_keepsWaiting : s.KeepsWaiting (execStoreWriteEnd s) := by
  refine next ?_
  split <;> rfl

/-- Power-on takes over the queue of commands besides the stored record (R178). -/
theorem execPowerOn_keepsWaiting : s.KeepsWaiting (execPowerOn s) := by
  refine next ?_
  split <;> rfl

theorem execPowerLoss_keepsWaiting : s.KeepsWaiting (execPowerLoss s) := by
  refine next ?_
  split <;> rfl

theorem execResetLineAssert_keepsWaiting : s.KeepsWaiting (execResetLineAssert s) := by
  refine next ?_
  split
  · rfl
  · split <;> rfl

theorem execStartComplete_keepsWaiting : s.KeepsWaiting (execStartComplete s) := by
  refine next ?_
  split
  · split <;> rfl
  · rfl

theorem execInboundFrameDiscarded_keepsWaiting (bytes : List Byte) :
    s.KeepsWaiting (execInboundFrameDiscarded bytes s) := by
  refine whenRunning ?_
  split <;> simp

/-! ### Every command -/

/-- Every command answers a next state in which the same commands wait (log entry 3). -/
theorem exec_keepsWaiting (c : Instr) (s : State) : s.KeepsWaiting (exec c s) := by
  cases c with
  | intakeFrameTake c0 c1 c2 c3 => exact execIntakeFrameTake_keepsWaiting c0 c1 c2 c3
  | mergeEntryExpiry sensor count => exact execMergeEntryExpiry_keepsWaiting sensor count
  | admissionPlaceGrant => exact whenRunning State.givePlaces_pending
  | estimateStart => exact execEstimateStart_keepsWaiting
  | estimateCompletion bin => exact execEstimateCompletion_keepsWaiting bin
  | silenceSweep => exact execSilenceSweep_keepsWaiting
  | managementFrame body => exact execManagementFrame_keepsWaiting body
  | timeBeacon | pause => exact whenRunning rfl
  | go => exact execGo_keepsWaiting
  | loadPrefix => exact serve_change applyLoadPrefix_tablesStep
  | clearPrefix => exact serve_change applyClearPrefix_tablesStep
  | loadDevice => exact serve_change applyLoadDevice_tablesStep
  | clearDevice => exact serve_change applyClearDevice_tablesStep
  | loadBin => exact serve_change applyLoadBin_tablesStep
  | retireBin => exact serve_change applyRetireBin_tablesStep
  | clearDistrict => exact serve_change applyClearDistrict_tablesStep
  | loadProfile => exact serve_change applyLoadProfile_tablesStep
  | readPrefix | readDeviceByEntry | readDeviceBySensor | readBin | readProfile | readOutcomes
  | readCounters | readAuthority | readConfig => exact serve_report
  | requestDueList | readCountersReset | resetCounters | loadAuthority | storeConfig =>
    exact serve fun _ => State.answer_pending ..
  | restart | unknownOp => exact serve fun _ => rfl
  | loadWatchMask => exact execLoadWatchMask_keepsWaiting
  | changeApplication => exact execChangeApplication_keepsWaiting
  | changeTimeout => exact execChangeTimeout_keepsWaiting
  | transmissionEnd => exact execTransmissionEnd_keepsWaiting
  | startGrant | responseGrant | noticeGrant | summaryGrant | catchUpSummary =>
    exact whenRunning (State.grantIf_pending _)
  | noticeHoldExpiry => exact execNoticeHoldExpiry_keepsWaiting
  | summaryTimerExpiry => exact execSummaryTimerExpiry_keepsWaiting
  | beaconLossExpiry => exact execBeaconLossExpiry_keepsWaiting
  | storeWriteBegin => exact execStoreWriteBegin_keepsWaiting
  | storeWriteEnd => exact execStoreWriteEnd_keepsWaiting
  | powerOn => exact execPowerOn_keepsWaiting
  | powerLoss => exact execPowerLoss_keepsWaiting
  | resetLineAssert => exact execResetLineAssert_keepsWaiting
  | resetLineRelease => exact next rfl
  | startComplete => exact execStartComplete_keepsWaiting
  | inboundFrameDiscarded bytes => exact execInboundFrameDiscarded_keepsWaiting bytes

/-- Settles O3: `State.KeepsWaiting` is what it says of each command's outcome. -/
theorem everyCommandCompletesAndKeepsTheQueue :
    Obligations.EveryCommandCompletesAndKeepsTheQueue := exec_keepsWaiting

/-- Settles O1: the definition of `step` on a queue that is not empty. -/
theorem stepTakesTheFrontCommand : Obligations.StepTakesTheFrontCommand :=
  fun _ _ _ => rfl

end Sys2Proof.Machine
end
